-- ==== Sys2Proof/Word.lean ====
section
/-! DEFINITION. The fixed-width words of the machine (00_scope.md R11): registers, the status register and data
bytes are 8 bits; a data address, a pointer pair and an instruction word are 16 bits; the program counter is held in
17 bits, the wider of the two widths `PC_BITS` may take (R9). -/

namespace Sys2Proof

/-- A register, a status byte or a data byte (R11). -/
abbrev Byte := BitVec 8

/-- A data address, a pointer pair, the stack pointer or an instruction word (R11). -/
abbrev Word := BitVec 16

/-- A program word address. `PC_BITS` is 16 or 17 (R9); the 16-bit machine keeps bit 16 at 0 (`Config.wrapPc`). -/
abbrev ProgAddr := BitVec 17

/-- A general register number, 0..31 (R30). -/
abbrev Reg := Fin 32

end Sys2Proof
end

