-- ==== Sys2Proof/Config.lean ====
section
/-! DEFINITION. What is fixed for a whole run: the two open parameters of 00_scope.md R9, `PC_BITS` and `PROG_BYTES`,
as plain data that `State` carries (so that every statement about a state holds for each of their legal values); and
the free values, the spec's *draws* (R16, R533), as constants without a body: nothing can be proved of their values. -/

namespace Sys2Proof

/-- `PC_BITS`: 16 per the source, 17 as on the ATmega2560 (R9, D2). -/
inductive PcBits where
  | w16
  | w17
deriving DecidableEq, Repr

namespace PcBits

/-- The width as a number of bits. -/
def bits : PcBits → Nat
  | .w16 => 16
  | .w17 => 17

/-- `RA_BYTES`, the bytes of a pushed return address (R9): 2 or 3. -/
def raBytes : PcBits → Nat
  | .w16 => 2
  | .w17 => 3

end PcBits

/-- The open parameters of one run (R9). -/
structure Config where
  /-- `PC_BITS`. -/
  pcBits    : PcBits
  /-- `PROG_BYTES`: even, 2 to 262144. -/
  progBytes : Nat
deriving DecidableEq, Repr

namespace Config

/-- The values the spec gives by default (R9): 16 and 262144. -/
def default : Config := { pcBits := .w16, progBytes := 262144 }

/-- The legal values of the parameters (R9). -/
def legal (c : Config) : Bool := c.progBytes % 2 == 0 && 2 ≤ c.progBytes && c.progBytes ≤ 262144

/-- `M = 2^PC_BITS` (R250). -/
def pcModulus (c : Config) : Nat := 2 ^ c.pcBits.bits

/-- DESIGN CHOICE, unsafe only if a proof could see its values, and none can (log 8): the n-th fresh draw of the
Device called `device`: eight free bits, of which a PIN read takes one for each floating pin (R514) and the USART
receiver takes bit 0 for a floating line (R484). -/
opaque deviceDraw (device : String) (n : Nat) : Byte

/-- As `deviceDraw`, for the receiver of the virtual terminal called `terminal` (R547; log 8). -/
opaque terminalDraw (terminal : String) (n : Nat) : Bool

/-- The live compare value of channel `channel` after its OCR0x is written with `v` while the stopped timer is in a
waveform mode the spec does not model: the spec states no value there (R453; log 9), so the n-th such value of the
Device is free. -/
opaque ocrInUnmodelledMode (device : String) (n : Nat) (v : Byte) : Byte

end Config

end Sys2Proof
end

