-- ==== Sys2Proof/Machine/State.lean ====
section
/-! DEFINITION. The state of a run, as plain data: the Device under study, its sibling Devices, and the fabric that
joins them (10_state.md; 61_devices.md sections 4 to 7), with the state right after reset (70_reset_and_hazards.md
R601, R604). Each field names the rule that gives it to the machine. -/

namespace Sys2Proof.Machine

/-! ### Memories -/

/-- A memory as (address, byte) cells, in one canonical form (`Memory.wf` in Machine/Memory.lean): addresses strictly
rising, and no cell equal to what an unlisted address reads as. -/
abbrev Memory := List Host.Cell

/-- The two memories of a Device (R80). -/
inductive Space where
  /-- Program memory, keyed by program byte address. -/
  | program
  /-- Internal SRAM, keyed by data address. -/
  | sram
deriving DecidableEq, Repr

/-! ### Faults of a Device (60_exceptions.md section 1) -/

/-- The access kinds of a BusFault (R401, R403). -/
inductive AccessKind where
  | fetch
  | read
  | write
  | writeProg
deriving DecidableEq, Repr

/-- The direction of a StackFault (R404). -/
inductive StackDir where
  | push
  | pop
deriving DecidableEq, Repr

/-- The behaviours the spec refuses as unmodelled (R405), each with the detail its record names (R401). -/
inductive Unmodelled where
  /-- SLEEP with SE = 1 and this sleep mode, not 000 (R391). -/
  | sleepMode (sm : BitVec 3)
  /-- A write to MCUCR with IVSEL = 1 (R43). -/
  | mcucrIvsel
  /-- An external Timer0 clock, CS = 6 or 7 (R469). -/
  | timer0Clock (cs : BitVec 3)
  /-- A running Timer0 in an unmodelled waveform mode (R469). -/
  | timer0Wgm (wgm : BitVec 3)
  /-- A running Timer0 in fast PWM with the reserved COM0B = 01 (R469). -/
  | timer0Com0b
  /-- An enabled USART0 in a format other than asynchronous 8N1 (R481), with the register values the write would
  have left. -/
  | usart0 (ucsr0c : Byte) (ucsz02 mpcm0 : Bool)
deriving DecidableEq, Repr

/-- The kind and detail of a fault (R401). -/
inductive FaultDetail where
  /-- DecodeFault: the raw first word (R402). -/
  | decode (word : Word)
  /-- BusFault: the access kind and the offending address (R403). -/
  | bus (kind : AccessKind) (addr : Nat)
  /-- StackFault: the direction and the data address out of range (R404). -/
  | stack (dir : StackDir) (addr : Word)
  /-- Unmodelled: the behaviour refused (R405). -/
  | unmodelled (what : Unmodelled)
deriving DecidableEq, Repr

/-- The record a Device keeps when it halts (R401). -/
structure FaultRecord where
  /-- The Device's name. -/
  device : String
  /-- The word address of the faulting instruction, or the pc a vectoring sequence would have pushed. -/
  pc     : ProgAddr
  /-- The boundary T at which it began. -/
  time   : Nat
  detail : FaultDetail
deriving DecidableEq, Repr

/-- Core status (R59). -/
inductive Mode where
  | running
  | sleeping
  | halted (record : FaultRecord)
deriving DecidableEq, Repr

/-! ### Pins -/

/-- A logic level (R57, R513). `z` is the source's "floating". -/
inductive Level where
  | zero
  | one
  | z
deriving DecidableEq, Repr

/-- What a pin or an endpoint drives (R511): `strong false` and `strong true` are Strong0 and Strong1. -/
inductive Drive where
  | strong (b : Bool)
  | pullUp
  | float
deriving DecidableEq, Repr

/-- The eleven ports (R52). -/
inductive PortName where
  | a | b | c | d | e | f | g | h | j | k | l
deriving DecidableEq, Repr

/-- A port's place in the list of ports. -/
def PortName.index : PortName → Fin 11
  | .a => 0 | .b => 1 | .c => 2 | .d => 3 | .e => 4 | .f => 5 | .g => 6 | .h => 7 | .j => 8 | .k => 9 | .l => 10

/-- One port's registers and the synchronizers of its eight pins (R52, R53, R57). -/
structure Port where
  ddr   : Byte
  port  : Byte
  /-- The level of each pin one cycle ago. -/
  sync1 : Vector Level 8
  /-- The level of each pin two cycles ago, which a PIN read returns (R514). -/
  sync2 : Vector Level 8
deriving DecidableEq, Repr

/-- A port at reset (R516, R57). -/
def Port.reset : Port :=
  { ddr := 0, port := 0, sync1 := #v[.z, .z, .z, .z, .z, .z, .z, .z], sync2 := #v[.z, .z, .z, .z, .z, .z, .z, .z] }

/-! ### Peripherals -/

/-- Timer/Counter0 (R45 to R48, R55). -/
structure Timer0 where
  tccr0a   : Byte
  tccr0b   : Byte
  tcnt0    : Byte
  /-- The compare value the comparator uses (R453). -/
  ocr0a    : Byte
  ocr0b    : Byte
  /-- The value last written to OCR0A, which a read returns (R453). -/
  ocr0aBuf : Byte
  ocr0bBuf : Byte
  /-- The output compare latches (R470). -/
  oc0a     : Bool
  oc0b     : Bool
  /-- Set by a write to TCNT0, cleared at the next tick (R466). -/
  block    : Bool
  timsk0   : Byte
  tifr0    : Byte
deriving DecidableEq, Repr

/-- Timer0 at reset (R472). -/
def Timer0.reset : Timer0 :=
  { tccr0a := 0, tccr0b := 0, tcnt0 := 0, ocr0a := 0, ocr0b := 0, ocr0aBuf := 0, ocr0bBuf := 0,
    oc0a := false, oc0b := false, block := false, timsk0 := 0, tifr0 := 0 }

/-- The transmitter (R56): `bit` 0 is the start bit, 1 to 8 the data bits, 9 the stop bit; `left` the cycles left in
the current bit; `shift` the frame's byte. -/
inductive TxState where
  | idle
  | busy (bit left : Nat) (shift : Byte)
deriving DecidableEq, Repr

/-- A receiver (R56, R547): `j` the next sample's index 0..9, `wait` the cycles to it, `acc` the bits collected. -/
inductive RxState where
  | idle
  | frame (j wait : Nat) (acc : Byte)
deriving DecidableEq, Repr

/-- USART0 (R49 to R51, R56). UDRE0 is a view of `tx` (R485) and UPE0 always reads 0, so neither is stored. -/
structure Usart0 where
  rxc    : Bool
  txc    : Bool
  fe     : Bool
  dor    : Bool
  u2x    : Bool
  mpcm   : Bool
  ucsr0b : Byte
  ucsr0c : Byte
  ubrr0l : Byte
  ubrr0h : Byte
  tx     : TxState
  rx     : RxState
  /-- The receiver's previous sample. -/
  rxPrev : Bool
  /-- The last byte delivered, which a read of UDR0 returns. -/
  rxBuf  : Byte
deriving DecidableEq, Repr

/-- USART0 at reset (R496). -/
def Usart0.reset : Usart0 :=
  { rxc := false, txc := false, fe := false, dor := false, u2x := false, mpcm := false, ucsr0b := 0, ucsr0c := 0x06,
    ubrr0l := 0, ubrr0h := 0, tx := .idle, rx := .idle, rxPrev := false, rxBuf := 0 }

/-- The core's control registers in the I/O window (R40 to R44). -/
structure Control where
  rampz  : Byte
  eind   : Byte
  smcr   : Byte
  mcucr  : Byte
  gpior0 : Byte
  gpior1 : Byte
  gpior2 : Byte
deriving DecidableEq, Repr

/-- The control registers at reset (R601). -/
def Control.reset : Control :=
  { rampz := 0, eind := 0, smcr := 0, mcucr := 0, gpior0 := 0, gpior1 := 0, gpior2 := 0 }

/-! ### A Device -/

/-- Everything one Device holds (10_state.md). -/
structure Device where
  /-- Its name in the topology (R549), which its fault record carries (R401). -/
  name    : String
  /-- Program memory (R54). -/
  prog    : Memory
  /-- R0..R31 (R30). -/
  regs    : Vector Byte 32
  /-- SREG: I T H S V N Z C from bit 7 to bit 0 (R34). -/
  sreg    : Byte
  /-- The program counter, a word address (R37). -/
  pc      : ProgAddr
  /-- The stack pointer, the next free byte (R39). -/
  sp      : Word
  ctl     : Control
  timer   : Timer0
  usart   : Usart0
  ports   : Vector Port 11
  /-- Internal SRAM (R54). -/
  sram    : Memory
  /-- The "fires at most once" latches of vectors 25 and 26 (R58, R413). -/
  fired25 : Bool
  fired26 : Bool
  /-- The instruction just executed was SEI or RETI (R58, R414). -/
  inhibit : Bool
  mode    : Mode
  /-- T, the cycle of this Device's next instruction boundary (R59, R530). -/
  time    : Nat
  /-- The model's own: how many fresh draws this Device has consumed (log 8). -/
  draws   : Nat
deriving DecidableEq, Repr

/-- `RAMEND` (R9). -/
def ramEnd : Word := 0x21FF

/-- A Device at reset (R601) with this name and program memory. DESIGN CHOICE, unsafe: R0..R31 are 0x00 (log 3) and
an unwritten SRAM byte reads 0x00 (log 4); the spec gives draws. -/
def Device.reset (name : String) (prog : Memory) : Device :=
  { name := name
    prog := prog
    regs := #v[0, 0, 0, 0, 0, 0, 0, 0, 0, 0, 0, 0, 0, 0, 0, 0, 0, 0, 0, 0, 0, 0, 0, 0, 0, 0, 0, 0, 0, 0, 0, 0]
    sreg := 0
    pc := 0
    sp := ramEnd
    ctl := Control.reset
    timer := Timer0.reset
    usart := Usart0.reset
    ports := #v[Port.reset, Port.reset, Port.reset, Port.reset, Port.reset, Port.reset, Port.reset, Port.reset,
      Port.reset, Port.reset, Port.reset]
    sram := []
    fired25 := false
    fired26 := false
    inhibit := false
    mode := .running
    time := 0
    draws := 0 }

/-! ### The fabric -/

/-- An endpoint of the topology (R520): a pin of a Device (0 is the Device under study, k + 1 its k-th sibling), an
IndicatorPin, or an end of a virtual terminal. -/
inductive Endpoint where
  | pin (device : Nat) (port : PortName) (bit : Fin 8)
  | indicator (i : Nat)
  | termTx (i : Nat)
  | termRx (i : Nat)
deriving DecidableEq, Repr

/-- The conflict policies (R520). -/
inductive Policy where
  | or
  | lastWriter
deriving DecidableEq, Repr

/-- A drive in some cycle with its change cycle, drv(e, j) and chg(e, j) (R520). -/
structure Sample where
  drive : Drive
  chg   : Nat
deriving DecidableEq, Repr

/-- A Wire (R520), with the samples of its two ends from the latest cycle back, `delay` + 1 of them at most. -/
structure Wire where
  a      : Endpoint
  b      : Endpoint
  policy : Policy
  delay  : Nat
  histA  : List Sample
  histB  : List Sample
deriving DecidableEq, Repr

/-- What a virtual terminal's receiver reports (R547). -/
inductive TermEvent where
  /-- A byte and the cycle of its stop sample. -/
  | byte (b : Byte) (cycle : Nat)
  /-- A frame whose stop sample was 0, and its cycle. -/
  | frameError (cycle : Nat)
deriving DecidableEq, Repr

/-- A virtual terminal (R545 to R547). -/
structure Terminal where
  name      : String
  /-- `TERM_BIT_CYCLES`. -/
  bitCycles : Nat
  /-- The send list: the cycle and the byte of each request. -/
  sends     : List (Nat × Byte)
  rx        : RxState
  rxPrev    : Bool
  output    : List TermEvent
  /-- The model's own: how many fresh draws this terminal has consumed (log 8). -/
  draws     : Nat
deriving DecidableEq, Repr

/-- A traced signal (R550) and its last recorded value, none before cycle 0 (R551). -/
structure Signal where
  name     : String
  endpoint : Endpoint
  last     : Option Level
deriving DecidableEq, Repr

/-- An event of the trace: the cycle, the signal's index, its new value (R551). -/
structure TraceEvent where
  cycle  : Nat
  signal : Nat
  value  : Level
deriving DecidableEq, Repr

/-- The state of a run. -/
structure State where
  /-- `PC_BITS` and `PROG_BYTES` (R9). -/
  cfg           : Config
  /-- The cycle about to be processed, in the time base all Devices share (R530, R532). -/
  cycle         : Nat
  /-- `STOP_CYCLE`, if the host has chosen one (R542). -/
  stopCycle     : Option Nat
  /-- The Device under study; `exec` acts on it. -/
  dev           : Device
  /-- The other Devices of the run. -/
  siblings      : List Device
  wires         : List Wire
  terminals     : List Terminal
  /-- The names of the IndicatorPins (R517). -/
  indicators    : List String
  /-- The traced signals, in index order (R550). -/
  signals       : List Signal
  /-- The trace, oldest event first (R551). -/
  trace         : List TraceEvent
  /-- `TRACE_TIMESCALE` (R10). -/
  timescale     : String
  /-- `TRACE_UNITS_PER_CYCLE` (R10). -/
  unitsPerCycle : Nat
deriving DecidableEq, Repr

/-- Why a step can stop the whole run. A Device's own fault is not among these: it leaves the Device Halted, a state
(R400, R59; log 1). -/
inductive Fault where
  /-- Raised by `step` alone, when the host has chosen a `STOP_CYCLE` and every cycle before it is done: "no boundary
  k ≥ S starts a step, and no tick runs for a cycle ≥ S" (R542; log 11). Safe: nothing happens. -/
  | runOver
deriving DecidableEq, Repr

/-- Why an instruction has no meaning here. No meaning of this model refuses. -/
inductive Refusal where
  /-- Raised by an arm of `exec` for an instruction that has no meaning yet; no arm does. Safe: the machine stops. -/
  | notModelled (mnemonic : String)
deriving DecidableEq, Repr

/-- The run right after reset (R601, R604): cycle 0, one Device at reset with no image loaded, nothing wired, no stop
cycle chosen. How a program comes to run is log 5; the circuit of one unwired Device is log 6. -/
def State.reset : State :=
  { cfg := Config.default
    cycle := 0
    stopCycle := none
    dev := Device.reset "A" []
    siblings := []
    wires := []
    terminals := []
    indicators := []
    signals := []
    trace := []
    timescale := "1 ns"
    unitsPerCycle := 1 }

end Sys2Proof.Machine
end

