-- ==== Sys2Proof/Machine/Memory.lean ====
section
/-! DEFINITION. Bits of a byte, and the two memories as sorted lists of cells (20_memory.md). -/

namespace Sys2Proof.Machine

/-! ### Bits of a byte (R11) -/

/-- `v[i]`. -/
def bitOf (v : Byte) (i : Nat) : Bool := v.getLsbD i

/-- v with bit i set to b. -/
def setBit (v : Byte) (i : Nat) (b : Bool) : Byte :=
  if b then v ||| (1#8 <<< i) else v &&& ~~~(1#8 <<< i)

/-- The store of R92 into a register whose storage bits are `implemented`: `reg[i] <- v[i]` for each storage bit i
with `mask[i]` = 1; read-only, reserved and masked-off bits keep their value. -/
def storeBits (implemented old v mask : Byte) : Byte :=
  (old &&& ~~~(mask &&& implemented)) ||| (v &&& (mask &&& implemented))

/-! ### Memory -/

/-- What an address with no cell reads as: erased program memory is 0xFF (R83); an SRAM byte nothing has written is
0x00 (DESIGN CHOICE, unsafe, log 4: the spec gives a draw). -/
def Space.unlisted : Space → Byte
  | .program => 0xFF
  | .sram => 0x00

/-- The byte at address a. -/
def Memory.read (space : Space) : Memory → Nat → Byte
  | [], _ => space.unlisted
  | (k, v) :: m, a => if a < k then space.unlisted else if a = k then v else Memory.read space m a

/-- m with the byte at address a set to v; the cell goes when v is what an unlisted address reads as. -/
def Memory.write (space : Space) : Memory → Nat → Byte → Memory
  | [], a, v => if v = space.unlisted then [] else [(a, v)]
  | (k, w) :: m, a, v =>
    if a < k then (if v = space.unlisted then (k, w) :: m else (a, v) :: (k, w) :: m)
    else if a = k then (if v = space.unlisted then m else (a, v) :: m)
    else (k, w) :: Memory.write space m a v

/-- Every cell lies at or above `low`, addresses rise strictly, and no cell holds the unlisted byte. -/
def Memory.wfFrom (space : Space) : Nat → Memory → Bool
  | _, [] => true
  | low, (k, v) :: m => low ≤ k && v != space.unlisted && Memory.wfFrom space (k + 1) m

/-- The canonical form: equal memories are equal lists. -/
def Memory.wf (space : Space) (m : Memory) : Bool := Memory.wfFrom space 0 m

/-- Write the bytes one after the other from address a on. -/
def Memory.writeBytes (space : Space) (m : Memory) (a : Nat) : List Byte → Memory
  | [] => m
  | v :: vs => Memory.writeBytes space (Memory.write space m a v) (a + 1) vs

end Sys2Proof.Machine
end

