-- ==== Sys2Proof/Machine/Timer0.lean ====
section
/-! DEFINITION. Timer/Counter0 (61_devices.md section 1): waveform modes, prescaler, tick, output compare, and what a
write to each of its registers does. -/

namespace Sys2Proof.Machine

/-- The waveform modes in the order of R451's table. -/
inductive WaveMode where
  | normal
  | phasePwmFF
  | ctc
  | fastPwmFF
  | reserved4
  | phasePwmOcra
  | reserved6
  | fastPwmOcra
deriving DecidableEq, Repr

namespace WaveMode

/-- The mode of a WGM value (R451). -/
def ofWgm (w : BitVec 3) : WaveMode :=
  match w.toNat with
  | 0 => .normal
  | 1 => .phasePwmFF
  | 2 => .ctc
  | 3 => .fastPwmFF
  | 4 => .reserved4
  | 5 => .phasePwmOcra
  | 6 => .reserved6
  | _ => .fastPwmOcra

/-- Modes 000 and 010 (R451). -/
def isNonPwm : WaveMode → Bool
  | .normal | .ctc => true
  | .phasePwmFF | .fastPwmFF | .reserved4 | .phasePwmOcra | .reserved6 | .fastPwmOcra => false

/-- Modes 011 and 111, the PWM modes of R451. -/
def isFastPwm : WaveMode → Bool
  | .fastPwmFF | .fastPwmOcra => true
  | .normal | .phasePwmFF | .ctc | .reserved4 | .phasePwmOcra | .reserved6 => false

end WaveMode

/-- The two compare channels (R450). -/
inductive Channel where
  | a
  | b
deriving DecidableEq, Repr

namespace Timer0

/-- `WGM = {TCCR0B.WGM02, TCCR0A.WGM01, TCCR0A.WGM00}` (R450). -/
def wgm (t : Timer0) : BitVec 3 := t.tccr0b.extractLsb' 3 1 ++ t.tccr0a.extractLsb' 0 2

def waveMode (t : Timer0) : WaveMode := WaveMode.ofWgm t.wgm

/-- `CS = TCCR0B.CS0[2:0]` (R450). -/
def cs (t : Timer0) : BitVec 3 := t.tccr0b.extractLsb' 0 3

/-- COM0A and COM0B (R45). -/
def com (t : Timer0) : Channel → BitVec 2
  | .a => t.tccr0a.extractLsb' 6 2
  | .b => t.tccr0a.extractLsb' 4 2

/-- The prescale divisor N (R452): none when the counter is stopped, or under an external clock, which is refused
before it can run (R469). -/
def divisor (t : Timer0) : Option Nat :=
  match t.cs.toNat with
  | 1 => some 1
  | 2 => some 8
  | 3 => some 64
  | 4 => some 256
  | 5 => some 1024
  | _ => none

/-- Timer0 ticks in cycle c iff CS is 1 to 5 and `(c + 1) mod N = 0` (R460). -/
def ticksIn (t : Timer0) (c : Nat) : Bool :=
  match t.divisor with
  | some n => (c + 1) % n == 0
  | none => false

def latch (t : Timer0) : Channel → Bool
  | .a => t.oc0a
  | .b => t.oc0b

def setLatch (t : Timer0) (v : Bool) : Channel → Timer0
  | .a => { t with oc0a := v }
  | .b => { t with oc0b := v }

/-- `OutputMatch(x)` (R470). -/
def outputMatch (t : Timer0) (x : Channel) : Timer0 :=
  match t.waveMode.isNonPwm, (t.com x).toNat with
  | _, 0 => t
  | true, 1 => t.setLatch (!t.latch x) x
  | false, 1 => if x = .a ∧ t.waveMode = .fastPwmOcra then t.setLatch (!t.latch x) x else t
  | _, 2 => t.setLatch false x
  | _, _ => t.setLatch true x

/-- `OutputBottom(x)` (R470), called in fast PWM only. -/
def outputBottom (t : Timer0) (x : Channel) : Timer0 :=
  match (t.com x).toNat with
  | 2 => t.setLatch true x
  | 3 => t.setLatch false x
  | _ => t

/-- The places of TOV0, OCF0A and OCF0B in TIFR0, and of their enables in TIMSK0 (R48). -/
def tovBit : Nat := 0
def ocfABit : Nat := 1
def ocfBBit : Nat := 2

def setFlag (t : Timer0) (bit : Nat) : Timer0 := { t with tifr0 := setBit t.tifr0 bit true }

/-- A match on a channel: the flag, then the output (R461). -/
def compareMatch (t : Timer0) (bit : Nat) (x : Channel) : Timer0 := (t.setFlag bit).outputMatch x

/-- BOTTOM in fast PWM: the outputs, then the buffered compare values (R461). -/
def bottom (t : Timer0) : Timer0 :=
  let t := (t.outputBottom .a).outputBottom .b
  { t with ocr0a := t.ocr0aBuf, ocr0b := t.ocr0bBuf }

/-- TOP (R451, R461). -/
def top (t : Timer0) : Byte :=
  match t.waveMode with
  | .normal | .fastPwmFF => 0xFF
  | .ctc | .fastPwmOcra | .phasePwmFF | .reserved4 | .phasePwmOcra | .reserved6 => t.ocr0a

/-- The count, the overflow flag and the BOTTOM actions of a tick (R461), after its matches: `old` is the count at
the start of the tick, `top` the mode's TOP then, and `mA` says whether channel A matched. -/
def count (t : Timer0) (old top : Byte) (mA : Bool) : Timer0 :=
  match t.waveMode with
  | .normal =>
    let t := if old == 0xFF then t.setFlag tovBit else t
    { t with tcnt0 := old + 1 }
  | .ctc =>
    let t := if old == 0xFF then t.setFlag tovBit else t
    { t with tcnt0 := if mA then 0 else old + 1 }
  | .fastPwmFF | .fastPwmOcra =>
    if old == top || old == 0xFF then
      let t := if old == top then t.setFlag tovBit else t
      { t.bottom with tcnt0 := 0 }
    else { t with tcnt0 := old + 1 }
  | .phasePwmFF | .reserved4 | .phasePwmOcra | .reserved6 => t

/-- A channel with compare value `ocr` matches in this tick (R461, R466). -/
def isMatch (t : Timer0) (ocr : Byte) : Bool := t.tcnt0 == ocr && !t.block

/-- The timer tick (R461). In a waveform mode that is not modelled there is none: the timer is refused when it is
started in one (R469). -/
def tick (t : Timer0) : Timer0 :=
  if t.waveMode.isNonPwm || t.waveMode.isFastPwm then
    let t1 := { t with block := false }
    let t2 := if t.isMatch t.ocr0a then t1.compareMatch ocfABit .a else t1
    let t3 := if t.isMatch t.ocr0b then t2.compareMatch ocfBBit .b else t2
    t3.count t.tcnt0 t.top (t.isMatch t.ocr0a)
  else t

/-- The timer's part of the peripheral step of cycle c (R530). -/
def advance (t : Timer0) (c : Nat) : Timer0 := if t.ticksIn c then t.tick else t

/-- The configuration check of R469, in its order; the name the record carries when several conditions hold is
log 10. -/
def refusal (t : Timer0) : Option Unmodelled :=
  if 6 ≤ t.cs.toNat then some (.timer0Clock t.cs)
  else if t.cs ≠ 0 ∧ t.waveMode.isNonPwm = false ∧ t.waveMode.isFastPwm = false then some (.timer0Wgm t.wgm)
  else if t.cs ≠ 0 ∧ t.waveMode.isFastPwm = true ∧ t.com .b = 1 then some .timer0Com0b
  else none

/-- What a write to TCCR0A or TCCR0B does after its bits are stored: the check of R469, then, in a non-PWM mode,
`OCR0x <- ocr0x_buf` for both channels (R453). -/
def configured (t : Timer0) : Except FaultDetail Timer0 :=
  match t.refusal with
  | some u => .error (.unmodelled u)
  | none => .ok (if t.waveMode.isNonPwm then { t with ocr0a := t.ocr0aBuf, ocr0b := t.ocr0bBuf } else t)

/-- A write to TCCR0A (R45, R453, R469). -/
def writeTccr0a (t : Timer0) (v mask : Byte) : Except FaultDetail Timer0 :=
  configured { t with tccr0a := storeBits 0xF3 t.tccr0a v mask }

/-- The FOC strobes of a write to TCCR0B (R468): in a non-PWM mode an `OutputMatch` for each strobed channel. -/
def strobe (t : Timer0) (v mask : Byte) : Timer0 :=
  if t.waveMode.isNonPwm then
    let t := if bitOf (v &&& mask) 7 then t.outputMatch .a else t
    if bitOf (v &&& mask) 6 then t.outputMatch .b else t
  else t

/-- A write to TCCR0B (R46, R453, R468, R469). -/
def writeTccr0b (t : Timer0) (v mask : Byte) : Except FaultDetail Timer0 :=
  match configured { t with tccr0b := storeBits 0x0F t.tccr0b v mask } with
  | .ok t => .ok (t.strobe v mask)
  | .error e => .error e

/-- A write to TCNT0 (R466). -/
def writeTcnt0 (t : Timer0) (v mask : Byte) : Timer0 :=
  { t with tcnt0 := storeBits 0xFF t.tcnt0 v mask, block := true }

/-- The compare value after OCR0x is written with v (R453): at once in the non-PWM modes, the old one (until BOTTOM)
in the PWM modes; in a mode the spec does not model it states none, and `free` stands for it (log 9). -/
def liveAfterWrite (t : Timer0) (old v free : Byte) : Byte :=
  if t.waveMode.isNonPwm then v else if t.waveMode.isFastPwm then old else free

/-- A write to OCR0A (R453). -/
def writeOcr0a (t : Timer0) (v mask free : Byte) : Timer0 :=
  let v := storeBits 0xFF t.ocr0aBuf v mask
  { t with ocr0aBuf := v, ocr0a := t.liveAfterWrite t.ocr0a v free }

/-- A write to OCR0B (R453). -/
def writeOcr0b (t : Timer0) (v mask free : Byte) : Timer0 :=
  let v := storeBits 0xFF t.ocr0bBuf v mask
  { t with ocr0bBuf := v, ocr0b := t.liveAfterWrite t.ocr0b v free }

/-- A write to TIMSK0 (R48). -/
def writeTimsk0 (t : Timer0) (v mask : Byte) : Timer0 := { t with timsk0 := storeBits 0x07 t.timsk0 v mask }

/-- A write to TIFR0: a 1 clears its flag, a 0 leaves it (R48, R92). -/
def writeTifr0 (t : Timer0) (v mask : Byte) : Timer0 := { t with tifr0 := t.tifr0 &&& ~~~(v &&& (mask &&& 0x07)) }

/-- Channel x is connected to its pin (R470). -/
def connected (t : Timer0) (x : Channel) : Bool :=
  t.com x != 0 && !(x = .a && t.com .a = 1 && (t.waveMode = .phasePwmFF || t.waveMode = .fastPwmFF))

end Timer0

end Sys2Proof.Machine
end

