-- ==== Sys2Proof/Machine/Usart0.lean ====
section
/-! DEFINITION. USART0 (61_devices.md section 2) and the receiver it shares with the virtual terminal (R547). -/

namespace Sys2Proof.Machine

/-! ### A receiver (R488, R547) -/

/-- What a completed frame amounts to: its byte, or a stop sample of 0. -/
inductive RxReport where
  | byte (b : Byte)
  | badStop
deriving DecidableEq, Repr

/-- One tick of a receiver with bit period `d`, previous sample `prev` and sample `s` (R488): its next state and what
it reports. -/
def rxStep (d : Nat) (prev s : Bool) : RxState → RxState × Option RxReport
  | .idle => (if prev && !s then .frame 0 (d / 2) 0 else .idle, none)
  | .frame j wait acc =>
    if wait - 1 = 0 then
      if j = 0 then (if s then .idle else .frame 1 d acc, none)
      else if j ≤ 8 then (.frame (j + 1) d (setBit acc (j - 1) s), none)
      else (.idle, some (if s then .byte acc else .badStop))
    else (.frame j (wait - 1) acc, none)

namespace Usart0

/-- The bits of UCSR0B (R50). -/
def rxcie (u : Usart0) : Bool := bitOf u.ucsr0b 7
def txcie (u : Usart0) : Bool := bitOf u.ucsr0b 6
def udrie (u : Usart0) : Bool := bitOf u.ucsr0b 5
def rxen (u : Usart0) : Bool := bitOf u.ucsr0b 4
def txen (u : Usart0) : Bool := bitOf u.ucsr0b 3
def ucsz02 (u : Usart0) : Bool := bitOf u.ucsr0b 2

/-- UDRE0 is 1 iff the transmitter is Idle (R485). -/
def udre (u : Usart0) : Bool := u.tx = .idle

/-- What a read of UCSR0A returns (R49, R491). -/
def ucsr0a (u : Usart0) : Byte :=
  BitVec.ofBool u.rxc ++ BitVec.ofBool u.txc ++ BitVec.ofBool u.udre ++ BitVec.ofBool u.fe ++
  BitVec.ofBool u.dor ++ (0 : BitVec 1) ++ BitVec.ofBool u.u2x ++ BitVec.ofBool u.mpcm

/-- `UBRR0 = {UBRR0H[3:0], UBRR0L}` (R482). -/
def ubrr0 (u : Usart0) : Nat := (u.ubrr0h.extractLsb' 0 4 ++ u.ubrr0l).toNat

/-- The bit period D in core cycles (R482). -/
def bitPeriod (u : Usart0) : Nat := (if u.u2x then 8 else 16) * (u.ubrr0 + 1)

/-- Asynchronous 8N1 without multi-processor mode (R481). -/
def is8N1 (u : Usart0) : Bool :=
  u.ucsr0c.extractLsb' 6 2 == 0 && u.ucsr0c.extractLsb' 4 2 == 0 && !bitOf u.ucsr0c 3 &&
  u.ucsr0c.extractLsb' 1 2 == 3 && !u.ucsz02 && !u.mpcm

/-- What a write to UCSR0A, UCSR0B or UCSR0C does after its bits are stored: an enabled USART in an unsupported
configuration is refused (R481). -/
def configured (u : Usart0) : Except FaultDetail Usart0 :=
  if (u.rxen || u.txen) && !u.is8N1 then .error (.unmodelled (.usart0 u.ucsr0c u.ucsz02 u.mpcm)) else .ok u

/-- A write to UCSR0A: TXC0 is cleared by a 1, U2X0 and MPCM0 are stored (R49, R92, R481). -/
def writeUcsr0a (u : Usart0) (v mask : Byte) : Except FaultDetail Usart0 :=
  configured { u with
    txc := u.txc && !bitOf (v &&& mask) 6
    u2x := if bitOf mask 1 then bitOf v 1 else u.u2x
    mpcm := if bitOf mask 0 then bitOf v 0 else u.mpcm }

/-- Disabling the receiver (R492). -/
def flushRx (u : Usart0) : Usart0 := { u with rx := .idle, rxPrev := false, rxc := false, fe := false, dor := false }

/-- A write to UCSR0B: bit 1 is read-only (R50, R481, R492). -/
def writeUcsr0b (u : Usart0) (v mask : Byte) : Except FaultDetail Usart0 :=
  match configured { u with ucsr0b := storeBits 0xFD u.ucsr0b v mask } with
  | .ok u' => .ok (if u.rxen && !u'.rxen then u'.flushRx else u')
  | .error e => .error e

/-- A write to UCSR0C (R51, R481). -/
def writeUcsr0c (u : Usart0) (v mask : Byte) : Except FaultDetail Usart0 :=
  configured { u with ucsr0c := storeBits 0xFF u.ucsr0c v mask }

/-- Writes to UBRR0L and UBRR0H (R51); no check (C12). -/
def writeUbrr0l (u : Usart0) (v mask : Byte) : Usart0 := { u with ubrr0l := storeBits 0xFF u.ubrr0l v mask }
def writeUbrr0h (u : Usart0) (v mask : Byte) : Usart0 := { u with ubrr0h := storeBits 0x0F u.ubrr0h v mask }

/-- A write of v to UDR0 (R486): an enabled, idle transmitter starts the frame; otherwise the byte is ignored. -/
def writeUdr0 (u : Usart0) (v : Byte) : Usart0 :=
  if u.txen && u.udre then { u with tx := .busy 0 u.bitPeriod v } else u

/-- What a read of UDR0 leaves (R490); it returns `rxBuf`. -/
def afterUdr0Read (u : Usart0) : Usart0 := { u with rxc := false, dor := false, fe := false }

/-- The transmitter has taken pin PE1 (R483). -/
def txOwnsPin (u : Usart0) : Bool := u.txen || !u.udre

/-- `txbit` (R483). -/
def txBit (u : Usart0) : Bool :=
  match u.tx with
  | .idle => true
  | .busy bit _ shift => if bit = 0 then false else if bit ≤ 8 then bitOf shift (bit - 1) else true

/-- The transmitter tick (R487). -/
def txTick (u : Usart0) : Usart0 :=
  match u.tx with
  | .idle => u
  | .busy bit left shift =>
    if left - 1 = 0 then
      if bit < 9 then { u with tx := .busy (bit + 1) u.bitPeriod shift } else { u with tx := .idle, txc := true }
    else { u with tx := .busy bit (left - 1) shift }

/-- `Deliver(b)` (R493): overrun keeps the unread byte. -/
def deliver (u : Usart0) (b : Byte) : Usart0 :=
  if u.rxc then { u with dor := true } else { u with rxBuf := b, rxc := true }

/-- The effect of what the receiver reports (R493, R494). -/
def receive (u : Usart0) : Option RxReport → Usart0
  | none => u
  | some (.byte b) => u.deliver b
  | some .badStop => { u with fe := true }

/-- The receiver tick with sample s (R488); nothing while RXEN0 = 0. -/
def rxTick (u : Usart0) (s : Bool) : Usart0 :=
  if u.rxen then
    let (rx, report) := rxStep u.bitPeriod u.rxPrev s u.rx
    { u.receive report with rx := rx, rxPrev := s }
  else u

end Usart0

end Sys2Proof.Machine
end

