-- ==== Sys2Proof/Machine/Gpio.lean ====
section
/-! DEFINITION. The ports and the pin multiplexer (61_devices.md section 3): which pins exist, what each drives, the
input synchronizer, and how a PIN read sees it. -/

namespace Sys2Proof.Machine

/-- The pins a port has: port G has only PG0..PG5 (R52). -/
def PortName.pins : PortName → Byte
  | .g => 0x3F
  | .a | .b | .c | .d | .e | .f | .h | .j | .k | .l => 0xFF

/-- Pin n of the port exists (R510). -/
def PortName.hasPin (p : PortName) (n : Fin 8) : Bool := bitOf p.pins n.val

namespace Device

/-- The registers and synchronizers of a port. -/
def portRegs (d : Device) (p : PortName) : Port := d.ports[p.index]

def setPortRegs (d : Device) (p : PortName) (r : Port) : Device := { d with ports := d.ports.set p.index r }

/-- MCUCR.PUD: no pin has a pull-up (R43, R512). -/
def pullUpsOff (d : Device) : Bool := bitOf d.ctl.mcucr 4

/-- An input pin's pull-up, if any (R512). -/
def inputDrive (d : Device) (p : PortName) (n : Fin 8) : Drive :=
  if bitOf (d.portRegs p).port n.val && !d.pullUpsOff then .pullUp else .float

/-- An ordinary port pin (the last three cases of R511). -/
def portDrive (d : Device) (p : PortName) (n : Fin 8) : Drive :=
  if bitOf (d.portRegs p).ddr n.val then .strong (bitOf (d.portRegs p).port n.val) else d.inputDrive p n

/-- What pin n of port p drives (R511): TXD0 on PE1, OC0A on PB7, OC0B on PG5, RXD0 on PE0, and every other pin an
ordinary port pin (R510). A pin that does not exist drives nothing. -/
def pinDrive (d : Device) (p : PortName) (n : Fin 8) : Drive :=
  match p, n with
  | .e, 1 => if d.usart.txOwnsPin then .strong d.usart.txBit else d.portDrive .e 1
  | .b, 7 =>
    if d.timer.connected .a && bitOf (d.portRegs .b).ddr 7 then .strong d.timer.oc0a else d.portDrive .b 7
  | .g, 5 =>
    if d.timer.connected .b && bitOf (d.portRegs .g).ddr 5 then .strong d.timer.oc0b else d.portDrive .g 5
  | .e, 0 => if d.usart.rxen then d.inputDrive .e 0 else d.portDrive .e 0
  | p, n => if p.hasPin n then d.portDrive p n else .float

end Device

/-- The level of a pin on no wire (R513). -/
def Drive.level : Drive → Level
  | .strong false => .zero
  | .strong true => .one
  | .pullUp => .one
  | .float => .z

/-- A level as a bit, a floating one as the draw (R484, R514). -/
def Level.bit (draw : Bool) : Level → Bool
  | .zero => false
  | .one => true
  | .z => draw

namespace Port

/-- The synchronizer update of a port in the tick of a cycle whose pin levels are `level` (R514). -/
def sync (r : Port) (level : Fin 8 → Level) : Port :=
  { r with
    sync2 := r.sync1
    sync1 := #v[level 0, level 1, level 2, level 3, level 4, level 5, level 6, level 7] }

/-- The byte a PIN read gives: bit n is `sync2` of pin n, a floating one bit n of the draw (R514). -/
def pinByte (r : Port) (draw : Byte) : Byte :=
  BitVec.ofBool ((r.sync2[7]).bit (bitOf draw 7)) ++ BitVec.ofBool ((r.sync2[6]).bit (bitOf draw 6)) ++
  BitVec.ofBool ((r.sync2[5]).bit (bitOf draw 5)) ++ BitVec.ofBool ((r.sync2[4]).bit (bitOf draw 4)) ++
  BitVec.ofBool ((r.sync2[3]).bit (bitOf draw 3)) ++ BitVec.ofBool ((r.sync2[2]).bit (bitOf draw 2)) ++
  BitVec.ofBool ((r.sync2[1]).bit (bitOf draw 1)) ++ BitVec.ofBool ((r.sync2[0]).bit (bitOf draw 0))

end Port

namespace Device

/-- The synchronizer update of every pin (R514). -/
def syncPins (d : Device) (level : PortName → Fin 8 → Level) : Device :=
  { d with ports := #v[
      (d.portRegs .a).sync (level .a), (d.portRegs .b).sync (level .b), (d.portRegs .c).sync (level .c),
      (d.portRegs .d).sync (level .d), (d.portRegs .e).sync (level .e), (d.portRegs .f).sync (level .f),
      (d.portRegs .g).sync (level .g), (d.portRegs .h).sync (level .h), (d.portRegs .j).sync (level .j),
      (d.portRegs .k).sync (level .k), (d.portRegs .l).sync (level .l)] }

/-- What a read of PINx returns (R53, R514): the bits of absent pins read 0. -/
def pinRead (d : Device) (p : PortName) : Byte :=
  (d.portRegs p).pinByte (Config.deviceDraw d.name d.draws) &&& p.pins

end Device

end Sys2Proof.Machine
end

