-- ==== Sys2Proof/Machine/Terminal.lean ====
section
/-! DEFINITION. The virtual terminal (61_devices.md section 6): what V.tx drives, and what V's receiver does. -/

namespace Sys2Proof.Machine

namespace Terminal

/-- Bit `j` of the frame that carries `v`: 0 is the start bit, 1 to 8 the data bits, 9 the stop bit (R546). -/
def frameBit (v : Byte) (j : Nat) : Bool := if j = 0 then false else if j ≤ 8 then bitOf v (j - 1) else true

/-- What V.tx drives in cycle k (R546): `free` is the first cycle in which the next frame of the list may start; the
frame starts there or at its request's cycle, whichever is later, and lasts ten bit periods. The line is 1 outside
every frame. -/
def txBitFrom (bitCycles free k : Nat) : List (Nat × Byte) → Bool
  | [] => true
  | (c, v) :: rest =>
    let start := max c free
    if k < start then true
    else if k < start + 10 * bitCycles then frameBit v ((k - start) / bitCycles)
    else txBitFrom bitCycles (start + 10 * bitCycles) k rest

def txDrive (t : Terminal) (k : Nat) : Drive := .strong (txBitFrom t.bitCycles 0 k t.sends)

/-- The event a report of the receiver adds to the output list in cycle k (R547). -/
def event (k : Nat) : RxReport → TermEvent
  | .byte b => .byte b k
  | .badStop => .frameError k

/-- The receiver's tick in cycle k with the level of V.rx (R547); a floating level is a draw. -/
def tick (t : Terminal) (k : Nat) (level : Level) : Terminal :=
  let s := level.bit (Config.terminalDraw t.name t.draws)
  let (rx, report) := rxStep t.bitCycles t.rxPrev s t.rx
  { t with
    rx := rx
    rxPrev := s
    output := t.output ++ (report.map (event k)).toList
    draws := if level = .z then t.draws + 1 else t.draws }

/-- `receive()` (R547): the bytes received, in order. -/
def received (t : Terminal) : List Byte :=
  t.output.filterMap fun
    | .byte b _ => some b
    | .frameError _ => none

end Terminal

end Sys2Proof.Machine
end

