-- ==== Sys2Proof/Machine/Fabric.lean ====
section
/-! DEFINITION. The wires between endpoints (61_devices.md section 4) and the level every endpoint sees in a cycle
(R530 steps 2 and 3). -/

namespace Sys2Proof.Machine

namespace Level

def ofBool (b : Bool) : Level := if b then .one else .zero

end Level

namespace Wire

/-- A drive that has been Float since before cycle 0: `drv(e, j)` for j < 0 (R520). Its change cycle decides nothing
(log 16). -/
def silent : Sample := { drive := .float, chg := 0 }

/-- The history of an endpoint with its drive in cycle k added, `delay` + 1 samples of it kept: the change cycle is k
when the drive differs from that of the cycle before (R520). -/
def push (delay k : Nat) (hist : List Sample) (drive : Drive) : List Sample :=
  let prev := hist.headD silent
  ({ drive := drive, chg := if drive = prev.drive then prev.chg else k } :: hist).take (delay + 1)

/-- The endpoint's own drive: "each endpoint sees its own drive at once" (R520). -/
def near (hist : List Sample) : Sample := hist.headD silent

/-- The far drive, "d cycles late", with its change cycle as seen here (R520). -/
def far (delay : Nat) (hist : List Sample) : Sample :=
  let s := hist.getD delay silent
  { s with chg := s.chg + delay }

/-- Two drives of which none decides by being Strong: 1 if a pull-up is among them, else Z (R522, R523). -/
def weak (a b : Drive) : Level := if a = .pullUp ∨ b = .pullUp then .one else .z

/-- Policy `or` (R522). -/
def resolveOr (a b : Sample) : Level :=
  match a.drive, b.drive with
  | .strong p, .strong q => Level.ofBool (p || q)
  | .strong p, _ => Level.ofBool p
  | _, .strong q => Level.ofBool q
  | x, y => weak x y

/-- Policy `last_writer` (R523): a and b are the samples of the wire's endpoints a and b, and b wins a tie. -/
def resolveLastWriter (a b : Sample) : Level :=
  match a.drive, b.drive with
  | .strong p, .strong q => Level.ofBool (if b.chg < a.chg then p else q)
  | .strong p, _ => Level.ofBool p
  | _, .strong q => Level.ofBool q
  | x, y => weak x y

/-- `resolve` (R520). -/
def resolve : Policy → Sample → Sample → Level
  | .or => resolveOr
  | .lastWriter => resolveLastWriter

/-- The level at endpoint a (R520). -/
def levelA (w : Wire) : Level := resolve w.policy (near w.histA) (far w.delay w.histB)

/-- The level at endpoint b (R520). -/
def levelB (w : Wire) : Level := resolve w.policy (far w.delay w.histA) (near w.histB)

/-- The wire joins this endpoint to another. -/
def joins (w : Wire) (e : Endpoint) : Bool := w.a = e || w.b = e

/-- The level at an endpoint of the wire. -/
def levelAt (w : Wire) (e : Endpoint) : Level := if w.a = e then w.levelA else w.levelB

/-- The wire with the drives of cycle k recorded. -/
def record (w : Wire) (k : Nat) (drive : Endpoint → Drive) : Wire :=
  { w with histA := push w.delay k w.histA (drive w.a), histB := push w.delay k w.histB (drive w.b) }

end Wire

namespace State

/-- The Devices of the run: 0 is the Device under study. -/
def device (s : State) (i : Nat) : Option Device := (s.dev :: s.siblings)[i]?

/-- What an endpoint drives in the cycle being processed (R511, R517, R546, R547). -/
def drive (s : State) : Endpoint → Drive
  | .pin i p n =>
    match s.device i with
    | some d => d.pinDrive p n
    | none => .float
  | .termTx i =>
    match s.terminals[i]? with
    | some t => t.txDrive s.cycle
    | none => .float
  | .indicator _ => .float
  | .termRx _ => .float

/-- Step 2 of a cycle: the wires take the drives of their ends (R530). -/
def recordDrives (s : State) : State := { s with wires := s.wires.map fun w => w.record s.cycle s.drive }

/-- The level of an endpoint in the cycle being processed, once its drives are recorded (R513, R520): an endpoint on
no wire has the level of its own drive (R521). -/
def level (s : State) (e : Endpoint) : Level :=
  match s.wires.find? (fun w => w.joins e) with
  | some w => w.levelAt e
  | none => (s.drive e).level

end State

end Sys2Proof.Machine
end

