-- ==== Sys2Proof/Machine/Trace.lean ====
section
/-! DEFINITION. The trace recorder (61_devices.md section 7): recording, and the export as text. -/

namespace Sys2Proof.Machine

/-! ### Recording (R551) -/

/-- The signals with their levels of this cycle remembered. -/
def noteLevels (level : Endpoint → Level) (signals : List Signal) : List Signal :=
  signals.map fun g => { g with last := some (level g.endpoint) }

/-- The events of cycle k, in index order from index i on: one for each signal whose level differs from the last
recorded one, or that has none yet. -/
def traceEvents (k : Nat) (level : Endpoint → Level) (i : Nat) : List Signal → List TraceEvent
  | [] => []
  | g :: gs =>
    let rest := traceEvents k level (i + 1) gs
    if g.last = some (level g.endpoint) then rest
    else { cycle := k, signal := i, value := level g.endpoint } :: rest

namespace State

/-- Step 5 of a cycle (R530, R551). -/
def recordTrace (s : State) (level : Endpoint → Level) : State :=
  { s with trace := s.trace ++ traceEvents s.cycle level 0 s.signals, signals := noteLevels level s.signals }

end State

/-! ### Export (R552) -/

/-- The digits of i in base 94, least significant first, as characters 33 to 126; `fuel` bounds their number. -/
def base94 : Nat → Nat → List Char
  | 0, _ => []
  | fuel + 1, i =>
    Char.ofNat (33 + i % 94) :: (if i / 94 = 0 then [] else base94 fuel (i / 94))

/-- `id(i)` (R552). -/
def signalId (i : Nat) : String := String.ofList (base94 (i + 1) i)

/-- v: 0, 1 or z. -/
def Level.symbol : Level → String
  | .zero => "0"
  | .one => "1"
  | .z => "z"

/-- The declaration lines, one per traced signal from index i on. -/
def declarations (i : Nat) : List Signal → List String
  | [] => []
  | g :: gs => ("$var wire 1 " ++ signalId i ++ " " ++ g.name ++ " $end") :: declarations (i + 1) gs

/-- The value lines: a time line before the first event of each cycle that has one. -/
def changes (units : Nat) (prev : Option Nat) : List TraceEvent → List String
  | [] => []
  | e :: es =>
    (if prev = some e.cycle then [] else ["#" ++ toString (e.cycle * units)]) ++
    ((e.value.symbol ++ signalId e.signal) :: changes units (some e.cycle) es)

namespace State

/-- The lines of the export (R552). -/
def exportLines (s : State) : List String :=
  ["$timescale " ++ s.timescale ++ " $end", "$scope module top $end"] ++ declarations 0 s.signals ++
  ["$upscope $end", "$enddefinitions $end"] ++ changes s.unitsPerCycle none s.trace

/-- `export()` (R552, R555): a LF after every line, the last one's too ("LF-terminated", 95_test_vectors.md P3;
log 17). -/
def exportTrace (s : State) : String := String.join (s.exportLines.map fun l => l ++ "\n")

end State

end Sys2Proof.Machine
end

