-- ==== Sys2Proof/Machine/Build.lean ====
section
/-! DEFINITION. Building a run from a topology (61_devices.md R549, 60_exceptions.md R406, 70_reset_and_hazards.md
R604): the host's raw description, its validation, and the state at cycle 0. -/

namespace Sys2Proof.Machine

/-! ### The topology as the host gives it (R549) -/

/-- The name of an endpoint: a pin by Device, port letter and bit (`A.PE1`), an IndicatorPin, an end of a terminal. -/
inductive EndpointName where
  | pin (device : String) (port : Char) (bit : Nat)
  | indicator (name : String)
  | termTx (name : String)
  | termRx (name : String)
deriving DecidableEq, Repr

/-- A Device: its name and its program image. -/
structure DeviceSpec where
  name  : String
  image : List Byte
deriving DecidableEq, Repr

/-- A Wire: "default 0" of its delay is R10's. -/
structure WireSpec where
  a      : EndpointName
  b      : EndpointName
  policy : String
  delay  : Int := 0
deriving DecidableEq, Repr

structure TerminalSpec where
  name      : String
  bitCycles : Int
  /-- The requests: a cycle and a value. -/
  sends     : List (Int × Int)
deriving DecidableEq, Repr

/-- The topology. It has at least one Device, the one under study (log 18). The parameters' defaults are those of
R9 and R10; `STOP_CYCLE` has none. -/
structure Topology where
  cfg           : Config := Config.default
  device        : DeviceSpec
  siblings      : List DeviceSpec
  wires         : List WireSpec
  terminals     : List TerminalSpec
  indicators    : List String
  signals       : List EndpointName
  timescale     : String := "1 ns"
  unitsPerCycle : Int := 1
  stopCycle     : Int
deriving DecidableEq, Repr

/-- Why a topology is rejected, with the offending item, in the order of the checks (R549). DESIGN CHOICE (log 18):
for an unknown policy and for a negative delay the item is the whole wire, its policy and its delay with it: R406 names
the wire there, R549 the policy and the delay. -/
inductive ConfigFault where
  | duplicateName (name : String)
  | imageTooLong (device : String)
  | noSuchEndpoint (e : EndpointName)
  | endpointOnTwoWires (e : EndpointName)
  | selfWire (e : EndpointName)
  | unknownPolicy (wire : WireSpec)
  | negativeDelay (wire : WireSpec)
  | bitCyclesTooSmall (terminal : String)
  | badSendList (terminal : String)
  | noSuchSignal (e : EndpointName)
  | signalTwice (e : EndpointName)
  | unitsTooSmall
  | negativeStop
deriving DecidableEq, Repr

/-! ### Names -/

/-- The port of a letter (R52): there is no port I. -/
def PortName.ofLetter (c : Char) : Option PortName :=
  [('A', PortName.a), ('B', .b), ('C', .c), ('D', .d), ('E', .e), ('F', .f), ('G', .g), ('H', .h), ('J', .j), ('K', .k),
    ('L', .l)].lookup c

/-- The place of a name in a list. -/
def indexOf? (name : String) : List String → Option Nat
  | [] => none
  | x :: xs => if x = name then some 0 else (indexOf? name xs).map (· + 1)

/-- The first element of a list that occurs again after an element before it. -/
def firstRepeat {α : Type} [DecidableEq α] (seen : List α) : List α → Option α
  | [] => none
  | x :: xs => if x ∈ seen then some x else firstRepeat (x :: seen) xs

/-- The endpoint's name in the export: "the endpoint name with every `.` kept" (R552, R510). -/
def EndpointName.text : EndpointName → String
  | .pin d p n => d ++ ".P" ++ String.singleton p ++ toString n
  | .indicator name => name
  | .termTx name => name ++ ".tx"
  | .termRx name => name ++ ".rx"

/-- The policy of a name (R520). -/
def Policy.ofName (name : String) : Option Policy :=
  if name = "or" then some .or else if name = "last_writer" then some .lastWriter else none

namespace Topology

def devices (t : Topology) : List DeviceSpec := t.device :: t.siblings

/-- The names of the Devices, terminals and IndicatorPins. -/
def names (t : Topology) : List String :=
  t.devices.map (·.name) ++ t.terminals.map (·.name) ++ t.indicators

/-- The endpoint a name stands for, if it exists (R510, R517, R545). -/
def endpoint (t : Topology) : EndpointName → Option Endpoint
  | .pin d p n =>
    match indexOf? d (t.devices.map (·.name)), PortName.ofLetter p with
    | some i, some p => if h : n < 8 then (if p.hasPin ⟨n, h⟩ then some (.pin i p ⟨n, h⟩) else none) else none
    | _, _ => none
  | .indicator name => (indexOf? name t.indicators).map .indicator
  | .termTx name => (indexOf? name (t.terminals.map (·.name))).map .termTx
  | .termRx name => (indexOf? name (t.terminals.map (·.name))).map .termRx

/-! ### Validation (R549) -/

/-- The ends of a wire, once each. -/
def wireEnds (w : WireSpec) : List EndpointName := if w.a = w.b then [w.a] else [w.a, w.b]

/-- A send list in cycle order, of values 0..255, no cycle before the run's first. -/
def sendsOk : Int → List (Int × Int) → Bool
  | _, [] => true
  | low, (c, v) :: rest => low ≤ c && 0 ≤ v && v ≤ 255 && sendsOk c rest

/-- The first traced signal that does not exist or is listed twice. -/
def signalFault (t : Topology) (seen : List EndpointName) : List EndpointName → Option ConfigFault
  | [] => none
  | e :: es =>
    if (t.endpoint e).isNone then some (.noSuchSignal e)
    else if e ∈ seen then some (.signalTwice e)
    else t.signalFault (e :: seen) es

/-- The checks of R549, in its order. -/
def checks (t : Topology) : List (Option ConfigFault) := [
  (firstRepeat [] t.names).map .duplicateName,
  (t.devices.find? fun d => t.cfg.progBytes < d.image.length).map fun d => .imageTooLong d.name,
  ((t.wires.flatMap wireEnds).find? fun e => (t.endpoint e).isNone).map .noSuchEndpoint,
  (firstRepeat [] (t.wires.flatMap wireEnds)).map .endpointOnTwoWires,
  (t.wires.find? fun w => w.a = w.b).map fun w => .selfWire w.a,
  (t.wires.find? fun w => (Policy.ofName w.policy).isNone).map .unknownPolicy,
  (t.wires.find? fun w => w.delay < 0).map .negativeDelay,
  (t.terminals.find? fun v => v.bitCycles < 2).map fun v => .bitCyclesTooSmall v.name,
  (t.terminals.find? fun v => !sendsOk 0 v.sends).map fun v => .badSendList v.name,
  t.signalFault [] t.signals,
  if t.unitsPerCycle < 1 then some .unitsTooSmall else none,
  if t.stopCycle < 0 then some .negativeStop else none]

/-- The first offending item, if any (R549). -/
def fault (t : Topology) : Option ConfigFault := t.checks.findSome? id

/-! ### Reset (R601, R604) -/

/-- An image as program memory from address a on: image byte i at byte address i, nothing else (R83). -/
def imageCells (a : Nat) : List Byte → Memory
  | [] => []
  | v :: vs => if v = Space.unlisted .program then imageCells (a + 1) vs else (a, v) :: imageCells (a + 1) vs

def device0 (d : DeviceSpec) : Device := Device.reset d.name (imageCells 0 d.image)

/-- A terminal at reset: "a terminal's receiver Idle with `rx_prev` = 0 and its send list as given" (R604). -/
def terminal0 (v : TerminalSpec) : Terminal :=
  { name := v.name
    bitCycles := v.bitCycles.toNat
    sends := v.sends.map fun (c, b) => (c.toNat, BitVec.ofInt 8 b)
    rx := .idle
    rxPrev := false
    output := []
    draws := 0 }

/-- A wire of a valid topology, nothing driven yet. -/
def wire0 (t : Topology) (w : WireSpec) : Option Wire :=
  match t.endpoint w.a, t.endpoint w.b, Policy.ofName w.policy with
  | some a, some b, some p => some { a := a, b := b, policy := p, delay := w.delay.toNat, histA := [], histB := [] }
  | _, _, _ => none

def signal0 (t : Topology) (e : EndpointName) : Option Signal :=
  (t.endpoint e).map fun x => { name := e.text, endpoint := x, last := none }

/-- The run of a valid topology at cycle 0 (R604). -/
def start (t : Topology) : State :=
  { cfg := t.cfg
    cycle := 0
    stopCycle := some t.stopCycle.toNat
    dev := device0 t.device
    siblings := t.siblings.map device0
    wires := t.wires.filterMap t.wire0
    terminals := t.terminals.map terminal0
    indicators := t.indicators
    signals := t.signals.filterMap t.signal0
    trace := []
    timescale := t.timescale
    unitsPerCycle := t.unitsPerCycle.toNat }

/-- Build a run: a ConfigFault naming the first offending item, or the state at cycle 0 (R406, R549, R604). -/
def build (t : Topology) : Except ConfigFault State :=
  match t.fault with
  | some f => .error f
  | none => .ok t.start

end Topology

end Sys2Proof.Machine
end

