-- ==== Sys2Proof/Machine/Flags.lean ====
section
/-! DEFINITION. Every flag computation of the spec (40_arith_logic.md R200, R201 and the flag lines of its rules;
43_bit_test.md R360 to R362), as a function from the old SREG to the new one. A flag a function does not name keeps
its value (R202). -/

namespace Sys2Proof.Machine

/-- SREG with H, V, N, Z, C as given and S = N ⊕ V; I and T are kept (R34). -/
def flagsHSVNZC (sreg : Byte) (h v n z c : Bool) : Byte :=
  sreg.extractLsb' 6 2 ++ BitVec.ofBool h ++ BitVec.ofBool (n ^^ v) ++ BitVec.ofBool v ++ BitVec.ofBool n ++
  BitVec.ofBool z ++ BitVec.ofBool c

/-- As `flagsHSVNZC`, with H kept. -/
def flagsSVNZC (sreg : Byte) (v n z c : Bool) : Byte := flagsHSVNZC sreg (bitOf sreg 5) v n z c

/-- As `flagsHSVNZC`, with H and C kept. -/
def flagsSVNZ (sreg : Byte) (v n z : Bool) : Byte := flagsSVNZC sreg v n z (bitOf sreg 0)

/-- Z and C as given, the rest kept (R220 to R225). -/
def flagsZC (sreg : Byte) (z c : Bool) : Byte := sreg.extractLsb' 2 6 ++ BitVec.ofBool z ++ BitVec.ofBool c

/-- The carry out of bit i of a + b with result r (R200). -/
def carryAt (i : Nat) (a b r : Byte) : Bool :=
  (bitOf a i && bitOf b i) || (bitOf b i && !bitOf r i) || (!bitOf r i && bitOf a i)

/-- The borrow into bit i + 1 of a - b with result r (R200). -/
def borrowAt (i : Nat) (a b r : Byte) : Bool :=
  (!bitOf a i && bitOf b i) || (bitOf b i && bitOf r i) || (bitOf r i && !bitOf a i)

/-- `AddFlags(a, b, R)` (R200). -/
def addFlags (sreg a b r : Byte) : Byte :=
  flagsHSVNZC sreg (carryAt 3 a b r)
    ((bitOf a 7 && bitOf b 7 && !bitOf r 7) || (!bitOf a 7 && !bitOf b 7 && bitOf r 7))
    (bitOf r 7) (r == 0) (carryAt 7 a b r)

/-- `SubFlags(a, b, R)` (R200) with its Z given. -/
def subFlagsWithZ (sreg a b r : Byte) (z : Bool) : Byte :=
  flagsHSVNZC sreg (borrowAt 3 a b r)
    ((bitOf a 7 && !bitOf b 7 && !bitOf r 7) || (!bitOf a 7 && bitOf b 7 && bitOf r 7))
    (bitOf r 7) z (borrowAt 7 a b r)

/-- `SubFlags(a, b, R)` (R200). -/
def subFlags (sreg a b r : Byte) : Byte := subFlagsWithZ sreg a b r (r == 0)

/-- `SubFlagsZ(a, b, R)` (R200): Z stays 1 only if it was 1. -/
def subFlagsZ (sreg a b r : Byte) : Byte := subFlagsWithZ sreg a b r (r == 0 && bitOf sreg 1)

/-- `LogicFlags(R)` (R201). -/
def logicFlags (sreg r : Byte) : Byte := flagsSVNZ sreg false (bitOf r 7) (r == 0)

/-- COM's flags (R216): `LogicFlags(R)`, then C = 1. -/
def comFlags (sreg r : Byte) : Byte := flagsSVNZC sreg false (bitOf r 7) (r == 0) true

/-- NEG's flags (R217). -/
def negFlags (sreg a r : Byte) : Byte :=
  flagsHSVNZC sreg (bitOf r 3 || bitOf a 3) (r == 0x80) (bitOf r 7) (r == 0) (r != 0)

/-- INC's flags (R218). -/
def incFlags (sreg r : Byte) : Byte := flagsSVNZ sreg (r == 0x80) (bitOf r 7) (r == 0)

/-- DEC's flags (R219). -/
def decFlags (sreg r : Byte) : Byte := flagsSVNZ sreg (r == 0x7F) (bitOf r 7) (r == 0)

/-- ADIW's flags (R205). -/
def adiwFlags (sreg : Byte) (a r : Word) : Byte :=
  flagsSVNZC sreg (!a.msb && r.msb) r.msb (r == 0) (!r.msb && a.msb)

/-- SBIW's flags (R210). -/
def sbiwFlags (sreg : Byte) (a r : Word) : Byte :=
  flagsSVNZC sreg (a.msb && !r.msb) r.msb (r == 0) (r.msb && !a.msb)

/-- The flags of a right shift of a with result r (R360 to R362): C = a[0], N = R[7], V = N ⊕ C. -/
def shiftFlags (sreg a r : Byte) : Byte :=
  flagsSVNZC sreg (bitOf r 7 ^^ bitOf a 0) (bitOf r 7) (r == 0) (bitOf a 0)

/-- The multiplies' flags (R220 to R225): C is bit 15 of the product p, Z whether what is written, q, is 0. -/
def mulFlags (sreg : Byte) (p q : Word) : Byte := flagsZC sreg (q == 0) p.msb

end Sys2Proof.Machine
end

