-- ==== Sys2Proof/Syntax.lean ====
section
/-! DEFINITION. The instructions: one constructor for each of the 95 rows of spec/opcode_table.json (30_encoding.md
R139), in the table's order, with its operands after operand assembly (R125 to R138). Which operand values an
encoding can carry is `Instr.WellFormed` (WellFormed.lean). A relative offset is its raw field, read as a signed
number of words; `A` is an I/O number; `b` and `s` are bit numbers. -/

namespace Sys2Proof

inductive Instr where
  -- 40_arith_logic.md
  | add    (d r : Reg)
  | adc    (d r : Reg)
  | adiw   (d : Reg) (k : BitVec 6)
  | sub    (d r : Reg)
  | subi   (d : Reg) (k : Byte)
  | sbc    (d r : Reg)
  | sbci   (d : Reg) (k : Byte)
  | sbiw   (d : Reg) (k : BitVec 6)
  | and    (d r : Reg)
  | andi   (d : Reg) (k : Byte)
  | or     (d r : Reg)
  | ori    (d : Reg) (k : Byte)
  | eor    (d r : Reg)
  | com    (d : Reg)
  | neg    (d : Reg)
  | inc    (d : Reg)
  | dec    (d : Reg)
  | mul    (d r : Reg)
  | muls   (d r : Reg)
  | mulsu  (d r : Reg)
  | fmul   (d r : Reg)
  | fmuls  (d r : Reg)
  | fmulsu (d r : Reg)
  -- 41_branch.md
  | rjmp   (k : BitVec 12)
  | ijmp
  | eijmp
  | jmp    (k : BitVec 22)
  | rcall  (k : BitVec 12)
  | icall
  | eicall
  | call   (k : BitVec 22)
  | ret
  | reti
  | cpse   (d r : Reg)
  | cp     (d r : Reg)
  | cpc    (d r : Reg)
  | cpi    (d : Reg) (k : Byte)
  | sbrc   (r : Reg) (b : Fin 8)
  | sbrs   (r : Reg) (b : Fin 8)
  | sbic   (a : BitVec 5) (b : Fin 8)
  | sbis   (a : BitVec 5) (b : Fin 8)
  | brbs   (s : Fin 8) (k : BitVec 7)
  | brbc   (s : Fin 8) (k : BitVec 7)
  -- 42_data_transfer.md
  | mov    (d r : Reg)
  | movw   (d r : Reg)
  | ldi    (d : Reg) (k : Byte)
  | lds    (d : Reg) (k : Word)
  | ldX    (d : Reg)
  | ldXInc (d : Reg)
  | ldDecX (d : Reg)
  | ldYInc (d : Reg)
  | ldDecY (d : Reg)
  | ldY    (d : Reg)
  | lddY   (d : Reg) (q : BitVec 6)
  | ldZInc (d : Reg)
  | ldDecZ (d : Reg)
  | ldZ    (d : Reg)
  | lddZ   (d : Reg) (q : BitVec 6)
  | sts    (k : Word) (r : Reg)
  | stX    (r : Reg)
  | stXInc (r : Reg)
  | stDecX (r : Reg)
  | stYInc (r : Reg)
  | stDecY (r : Reg)
  | stY    (r : Reg)
  | stdY   (q : BitVec 6) (r : Reg)
  | stZInc (r : Reg)
  | stDecZ (r : Reg)
  | stZ    (r : Reg)
  | stdZ   (q : BitVec 6) (r : Reg)
  | lpm
  | lpmZ    (d : Reg)
  | lpmZInc (d : Reg)
  | elpm
  | elpmZ    (d : Reg)
  | elpmZInc (d : Reg)
  | spm
  | ioIn   (d : Reg) (a : BitVec 6)
  | ioOut  (a : BitVec 6) (r : Reg)
  | push   (r : Reg)
  | pop    (d : Reg)
  -- 43_bit_test.md
  | lsr    (d : Reg)
  | ror    (d : Reg)
  | asr    (d : Reg)
  | swap   (d : Reg)
  | bset   (s : Fin 8)
  | bclr   (s : Fin 8)
  | sbi    (a : BitVec 5) (b : Fin 8)
  | cbi    (a : BitVec 5) (b : Fin 8)
  | bst    (d : Reg) (b : Fin 8)
  | bld    (d : Reg) (b : Fin 8)
  -- 44_mcu_control.md
  | nop
  | sleep
  | wdr
  | brk
deriving DecidableEq, Repr

namespace Instr

/-- The length in words: two for JMP, CALL, LDS and STS, one for every other instruction (R120). -/
def words : Instr → Nat
  | .jmp _ | .call _ | .lds _ _ | .sts _ _ => 2
  | .add _ _ | .adc _ _ | .adiw _ _ | .sub _ _ | .subi _ _ | .sbc _ _ | .sbci _ _ | .sbiw _ _ | .and _ _
  | .andi _ _ | .or _ _ | .ori _ _ | .eor _ _ | .com _ | .neg _ | .inc _ | .dec _ | .mul _ _ | .muls _ _
  | .mulsu _ _ | .fmul _ _ | .fmuls _ _ | .fmulsu _ _ | .rjmp _ | .ijmp | .eijmp | .rcall _ | .icall | .eicall
  | .ret | .reti | .cpse _ _ | .cp _ _ | .cpc _ _ | .cpi _ _ | .sbrc _ _ | .sbrs _ _ | .sbic _ _ | .sbis _ _
  | .brbs _ _ | .brbc _ _ | .mov _ _ | .movw _ _ | .ldi _ _ | .ldX _ | .ldXInc _ | .ldDecX _ | .ldYInc _
  | .ldDecY _ | .ldY _ | .lddY _ _ | .ldZInc _ | .ldDecZ _ | .ldZ _ | .lddZ _ _ | .stX _ | .stXInc _
  | .stDecX _ | .stYInc _ | .stDecY _ | .stY _ | .stdY _ _ | .stZInc _ | .stDecZ _ | .stZ _ | .stdZ _ _ | .lpm
  | .lpmZ _ | .lpmZInc _ | .elpm | .elpmZ _ | .elpmZInc _ | .spm | .ioIn _ _ | .ioOut _ _ | .push _ | .pop _
  | .lsr _ | .ror _ | .asr _ | .swap _ | .bset _ | .bclr _ | .sbi _ _ | .cbi _ _ | .bst _ _ | .bld _ _ | .nop
  | .sleep | .wdr | .brk => 1

end Instr

end Sys2Proof
end

