-- ==== Sys2Proof/WellFormed.lean ====
section
/-! DEFINITION. Which operands an instruction's encoding can carry (10_state.md R30, 30_encoding.md R125 to R138,
R141). Everything else is bounded by the operand's own type. -/

namespace Sys2Proof

namespace Instr

/-- R16..R31, the registers of the immediate forms and MULS (R126, R129). -/
def highReg (d : Reg) : Bool := 16 ≤ d.val

/-- R16..R23, the registers of MULSU, FMUL, FMULS and FMULSU (R129). -/
def mulReg (d : Reg) : Bool := 16 ≤ d.val && d.val ≤ 23

/-- R24, R26, R28, R30, the low registers of ADIW's and SBIW's pairs (R128). -/
def iwReg (d : Reg) : Bool := 24 ≤ d.val && d.val % 2 == 0

/-- An even register, the low one of a MOVW pair (R129). -/
def evenReg (d : Reg) : Bool := d.val % 2 == 0

/-- Not a byte of the pointer pair that begins at register p: a form that updates the pointer may not also name one
of its bytes (R141). -/
def notOfPair (p : Nat) (d : Reg) : Bool := d.val != p && d.val != p + 1

/-- The operands are values the instruction's encoding admits. -/
def WellFormed : Instr → Bool
  | .adiw d _ | .sbiw d _ => iwReg d
  | .subi d _ | .sbci d _ | .andi d _ | .ori d _ | .cpi d _ | .ldi d _ => highReg d
  | .muls d r => highReg d && highReg r
  | .mulsu d r | .fmul d r | .fmuls d r | .fmulsu d r => mulReg d && mulReg r
  | .movw d r => evenReg d && evenReg r
  | .ldXInc d | .ldDecX d | .stXInc d | .stDecX d => notOfPair 26 d
  | .ldYInc d | .ldDecY d | .stYInc d | .stDecY d => notOfPair 28 d
  | .ldZInc d | .ldDecZ d | .stZInc d | .stDecZ d => notOfPair 30 d
  | .lpmZInc d | .elpmZInc d => notOfPair 30 d
  -- the q = 0 words are the alias rows LD_Y, LD_Z, ST_Y and ST_Z (R123; log 7)
  | .lddY _ q | .lddZ _ q | .stdY q _ | .stdZ q _ => q != 0
  | .add _ _ | .adc _ _ | .sub _ _ | .sbc _ _ | .and _ _ | .or _ _ | .eor _ _ | .com _ | .neg _ | .inc _
  | .dec _ | .mul _ _ | .rjmp _ | .ijmp | .eijmp | .jmp _ | .rcall _ | .icall | .eicall | .call _ | .ret
  | .reti | .cpse _ _ | .cp _ _ | .cpc _ _ | .sbrc _ _ | .sbrs _ _ | .sbic _ _ | .sbis _ _ | .brbs _ _
  | .brbc _ _ | .mov _ _ | .lds _ _ | .ldX _ | .ldY _ | .ldZ _ | .sts _ _ | .stX _ | .stY _ | .stZ _ | .lpm
  | .lpmZ _ | .elpm | .elpmZ _ | .spm | .ioIn _ _ | .ioOut _ _ | .push _ | .pop _ | .lsr _ | .ror _ | .asr _
  | .swap _ | .bset _ | .bclr _ | .sbi _ _ | .cbi _ _ | .bst _ _ | .bld _ _ | .nop | .sleep | .wdr | .brk => true

end Instr

end Sys2Proof
end

