-- ==== Sys2Proof/Decode.lean ====
section
/-! DEFINITION. Decoding and encoding (30_encoding.md). The decoder is the opcode table of R139 as a list of rows in
the table's order, each a mask and a pattern for the first word, the row's constraint (R141), and how its fields are
assembled (R125 to R138). The encoder is written from the same formats. -/

namespace Sys2Proof

namespace Decode

/-! ### Fields of an instruction word (R11: `v[hi:lo]`) -/

/-- `w[8:4]`, a register (F_RR, F_R1, F_LDST, F_LDS, F_LDDQ, F_IO, F_RB). -/
def reg5 (w : Word) : Reg := Fin.ofNat 32 (w.extractLsb' 4 5).toNat

/-- `{w[9], w[3:0]}`, the source register of F_RR (R125). -/
def srcReg (w : Word) : Reg := Fin.ofNat 32 (w.extractLsb' 9 1 ++ w.extractLsb' 0 4).toNat

/-- `16 + w[7:4]` (F_RK, F_MULS: R126, R129). -/
def highDst (w : Word) : Reg := Fin.ofNat 32 (16 + (w.extractLsb' 4 4).toNat)

/-- `16 + w[3:0]` (F_MULS, R129). -/
def highSrc (w : Word) : Reg := Fin.ofNat 32 (16 + (w.extractLsb' 0 4).toNat)

/-- `16 + w[6:4]` (F_MUL3, R129). -/
def mulDst (w : Word) : Reg := Fin.ofNat 32 (16 + (w.extractLsb' 4 3).toNat)

/-- `16 + w[2:0]` (F_MUL3, R129). -/
def mulSrc (w : Word) : Reg := Fin.ofNat 32 (16 + (w.extractLsb' 0 3).toNat)

/-- `2 * w[7:4]` (F_MOVW, R129). -/
def pairDst (w : Word) : Reg := Fin.ofNat 32 (2 * (w.extractLsb' 4 4).toNat)

/-- `2 * w[3:0]` (F_MOVW, R129). -/
def pairSrc (w : Word) : Reg := Fin.ofNat 32 (2 * (w.extractLsb' 0 4).toNat)

/-- `24 + 2 * w[5:4]` (F_IW, R128). -/
def iwDst (w : Word) : Reg := Fin.ofNat 32 (24 + 2 * (w.extractLsb' 4 2).toNat)

/-- `{w[7:6], w[3:0]}`, the constant of F_IW (R128). -/
def iwConst (w : Word) : BitVec 6 := w.extractLsb' 6 2 ++ w.extractLsb' 0 4

/-- `{w[11:8], w[3:0]}`, the constant of F_RK (R126). -/
def imm8 (w : Word) : Byte := w.extractLsb' 8 4 ++ w.extractLsb' 0 4

/-- `{w[13], w[11:10], w[2:0]}`, the displacement of F_LDDQ (R131). -/
def disp (w : Word) : BitVec 6 := w.extractLsb' 13 1 ++ w.extractLsb' 10 2 ++ w.extractLsb' 0 3

/-- `{w[10:9], w[3:0]}`, the I/O number of F_IO (R132). -/
def io6 (w : Word) : BitVec 6 := w.extractLsb' 9 2 ++ w.extractLsb' 0 4

/-- `w[7:3]`, the I/O number of F_IOB (R133). -/
def io5 (w : Word) : BitVec 5 := w.extractLsb' 3 5

/-- `w[2:0]`, a bit number (F_IOB, F_BR, F_RB: R133 to R135). -/
def bit3 (w : Word) : Fin 8 := Fin.ofNat 8 (w.extractLsb' 0 3).toNat

/-- `w[6:4]`, the SREG bit of F_S (R138). -/
def sregBit (w : Word) : Fin 8 := Fin.ofNat 8 (w.extractLsb' 4 3).toNat

/-- `w[9:3]`, the branch offset of F_BR (R134). -/
def off7 (w : Word) : BitVec 7 := w.extractLsb' 3 7

/-- `w[11:0]`, the jump offset of F_REL (R136). -/
def off12 (w : Word) : BitVec 12 := w.extractLsb' 0 12

/-- `{w1[8:4], w1[0], w2}`, the absolute address of F_JC (R137). -/
def addr22 (w1 w2 : Word) : BitVec 22 := w1.extractLsb' 4 5 ++ w1.extractLsb' 0 1 ++ w2

/-! ### The opcode table -/

/-- A row of the opcode table: the first word's fixed bits, the row's constraint, and the operands read from the
two words (the second is used by two-word rows only). -/
structure Row where
  mask       : Nat
  pattern    : Nat
  build      : Word → Word → Instr
  constraint : Word → Bool := fun _ => true

/-- The word has the row's fixed bits and meets its constraint (R123). -/
def Row.matches (row : Row) (w : Word) : Bool :=
  Nat.beq (Nat.land w.toNat row.mask) row.pattern && row.constraint w

/-- The register named by the word is not a byte of the pointer pair at p (R141). -/
def notPair (p : Nat) (w : Word) : Bool := Instr.notOfPair p (reg5 w)

/-- 40_arith_logic.md's rows. -/
def arithRows : List Row := [
  ⟨0xFC00, 0x0C00, fun w _ => .add (reg5 w) (srcReg w), fun _ => true⟩,
  ⟨0xFC00, 0x1C00, fun w _ => .adc (reg5 w) (srcReg w), fun _ => true⟩,
  ⟨0xFF00, 0x9600, fun w _ => .adiw (iwDst w) (iwConst w), fun _ => true⟩,
  ⟨0xFC00, 0x1800, fun w _ => .sub (reg5 w) (srcReg w), fun _ => true⟩,
  ⟨0xF000, 0x5000, fun w _ => .subi (highDst w) (imm8 w), fun _ => true⟩,
  ⟨0xFC00, 0x0800, fun w _ => .sbc (reg5 w) (srcReg w), fun _ => true⟩,
  ⟨0xF000, 0x4000, fun w _ => .sbci (highDst w) (imm8 w), fun _ => true⟩,
  ⟨0xFF00, 0x9700, fun w _ => .sbiw (iwDst w) (iwConst w), fun _ => true⟩,
  ⟨0xFC00, 0x2000, fun w _ => .and (reg5 w) (srcReg w), fun _ => true⟩,
  ⟨0xF000, 0x7000, fun w _ => .andi (highDst w) (imm8 w), fun _ => true⟩,
  ⟨0xFC00, 0x2800, fun w _ => .or (reg5 w) (srcReg w), fun _ => true⟩,
  ⟨0xF000, 0x6000, fun w _ => .ori (highDst w) (imm8 w), fun _ => true⟩,
  ⟨0xFC00, 0x2400, fun w _ => .eor (reg5 w) (srcReg w), fun _ => true⟩,
  ⟨0xFE0F, 0x9400, fun w _ => .com (reg5 w), fun _ => true⟩,
  ⟨0xFE0F, 0x9401, fun w _ => .neg (reg5 w), fun _ => true⟩,
  ⟨0xFE0F, 0x9403, fun w _ => .inc (reg5 w), fun _ => true⟩,
  ⟨0xFE0F, 0x940A, fun w _ => .dec (reg5 w), fun _ => true⟩,
  ⟨0xFC00, 0x9C00, fun w _ => .mul (reg5 w) (srcReg w), fun _ => true⟩,
  ⟨0xFF00, 0x0200, fun w _ => .muls (highDst w) (highSrc w), fun _ => true⟩,
  ⟨0xFF88, 0x0300, fun w _ => .mulsu (mulDst w) (mulSrc w), fun _ => true⟩,
  ⟨0xFF88, 0x0308, fun w _ => .fmul (mulDst w) (mulSrc w), fun _ => true⟩,
  ⟨0xFF88, 0x0380, fun w _ => .fmuls (mulDst w) (mulSrc w), fun _ => true⟩,
  ⟨0xFF88, 0x0388, fun w _ => .fmulsu (mulDst w) (mulSrc w), fun _ => true⟩]

/-- 41_branch.md's rows. -/
def branchRows : List Row := [
  ⟨0xF000, 0xC000, fun w _ => .rjmp (off12 w), fun _ => true⟩,
  ⟨0xFFFF, 0x9409, fun _ _ => .ijmp, fun _ => true⟩,
  ⟨0xFFFF, 0x9419, fun _ _ => .eijmp, fun _ => true⟩,
  ⟨0xFE0E, 0x940C, fun w w2 => .jmp (addr22 w w2), fun _ => true⟩,
  ⟨0xF000, 0xD000, fun w _ => .rcall (off12 w), fun _ => true⟩,
  ⟨0xFFFF, 0x9509, fun _ _ => .icall, fun _ => true⟩,
  ⟨0xFFFF, 0x9519, fun _ _ => .eicall, fun _ => true⟩,
  ⟨0xFE0E, 0x940E, fun w w2 => .call (addr22 w w2), fun _ => true⟩,
  ⟨0xFFFF, 0x9508, fun _ _ => .ret, fun _ => true⟩,
  ⟨0xFFFF, 0x9518, fun _ _ => .reti, fun _ => true⟩,
  ⟨0xFC00, 0x1000, fun w _ => .cpse (reg5 w) (srcReg w), fun _ => true⟩,
  ⟨0xFC00, 0x1400, fun w _ => .cp (reg5 w) (srcReg w), fun _ => true⟩,
  ⟨0xFC00, 0x0400, fun w _ => .cpc (reg5 w) (srcReg w), fun _ => true⟩,
  ⟨0xF000, 0x3000, fun w _ => .cpi (highDst w) (imm8 w), fun _ => true⟩,
  ⟨0xFE08, 0xFC00, fun w _ => .sbrc (reg5 w) (bit3 w), fun _ => true⟩,
  ⟨0xFE08, 0xFE00, fun w _ => .sbrs (reg5 w) (bit3 w), fun _ => true⟩,
  ⟨0xFF00, 0x9900, fun w _ => .sbic (io5 w) (bit3 w), fun _ => true⟩,
  ⟨0xFF00, 0x9B00, fun w _ => .sbis (io5 w) (bit3 w), fun _ => true⟩,
  ⟨0xFC00, 0xF000, fun w _ => .brbs (bit3 w) (off7 w), fun _ => true⟩,
  ⟨0xFC00, 0xF400, fun w _ => .brbc (bit3 w) (off7 w), fun _ => true⟩]

/-- 42_data_transfer.md's rows for moves and loads. -/
def loadRows : List Row := [
  ⟨0xFC00, 0x2C00, fun w _ => .mov (reg5 w) (srcReg w), fun _ => true⟩,
  ⟨0xFF00, 0x0100, fun w _ => .movw (pairDst w) (pairSrc w), fun _ => true⟩,
  ⟨0xF000, 0xE000, fun w _ => .ldi (highDst w) (imm8 w), fun _ => true⟩,
  ⟨0xFE0F, 0x9000, fun w w2 => .lds (reg5 w) w2, fun _ => true⟩,
  ⟨0xFE0F, 0x900C, fun w _ => .ldX (reg5 w), fun _ => true⟩,
  ⟨0xFE0F, 0x900D, fun w _ => .ldXInc (reg5 w), notPair 26⟩,
  ⟨0xFE0F, 0x900E, fun w _ => .ldDecX (reg5 w), notPair 26⟩,
  ⟨0xFE0F, 0x9009, fun w _ => .ldYInc (reg5 w), notPair 28⟩,
  ⟨0xFE0F, 0x900A, fun w _ => .ldDecY (reg5 w), notPair 28⟩,
  ⟨0xFE0F, 0x8008, fun w _ => .ldY (reg5 w), fun _ => true⟩,
  ⟨0xD208, 0x8008, fun w _ => .lddY (reg5 w) (disp w), fun w => disp w != 0⟩,
  ⟨0xFE0F, 0x9001, fun w _ => .ldZInc (reg5 w), notPair 30⟩,
  ⟨0xFE0F, 0x9002, fun w _ => .ldDecZ (reg5 w), notPair 30⟩,
  ⟨0xFE0F, 0x8000, fun w _ => .ldZ (reg5 w), fun _ => true⟩,
  ⟨0xD208, 0x8000, fun w _ => .lddZ (reg5 w) (disp w), fun w => disp w != 0⟩]

/-- 42_data_transfer.md's rows for stores. -/
def storeRows : List Row := [
  ⟨0xFE0F, 0x9200, fun w w2 => .sts w2 (reg5 w), fun _ => true⟩,
  ⟨0xFE0F, 0x920C, fun w _ => .stX (reg5 w), fun _ => true⟩,
  ⟨0xFE0F, 0x920D, fun w _ => .stXInc (reg5 w), notPair 26⟩,
  ⟨0xFE0F, 0x920E, fun w _ => .stDecX (reg5 w), notPair 26⟩,
  ⟨0xFE0F, 0x9209, fun w _ => .stYInc (reg5 w), notPair 28⟩,
  ⟨0xFE0F, 0x920A, fun w _ => .stDecY (reg5 w), notPair 28⟩,
  ⟨0xFE0F, 0x8208, fun w _ => .stY (reg5 w), fun _ => true⟩,
  ⟨0xD208, 0x8208, fun w _ => .stdY (disp w) (reg5 w), fun w => disp w != 0⟩,
  ⟨0xFE0F, 0x9201, fun w _ => .stZInc (reg5 w), notPair 30⟩,
  ⟨0xFE0F, 0x9202, fun w _ => .stDecZ (reg5 w), notPair 30⟩,
  ⟨0xFE0F, 0x8200, fun w _ => .stZ (reg5 w), fun _ => true⟩,
  ⟨0xD208, 0x8200, fun w _ => .stdZ (disp w) (reg5 w), fun w => disp w != 0⟩]

/-- 42_data_transfer.md's rows for program memory, I/O and the stack. -/
def otherTransferRows : List Row := [
  ⟨0xFFFF, 0x95C8, fun _ _ => .lpm, fun _ => true⟩,
  ⟨0xFE0F, 0x9004, fun w _ => .lpmZ (reg5 w), fun _ => true⟩,
  ⟨0xFE0F, 0x9005, fun w _ => .lpmZInc (reg5 w), notPair 30⟩,
  ⟨0xFFFF, 0x95D8, fun _ _ => .elpm, fun _ => true⟩,
  ⟨0xFE0F, 0x9006, fun w _ => .elpmZ (reg5 w), fun _ => true⟩,
  ⟨0xFE0F, 0x9007, fun w _ => .elpmZInc (reg5 w), notPair 30⟩,
  ⟨0xFFFF, 0x95E8, fun _ _ => .spm, fun _ => true⟩,
  ⟨0xF800, 0xB000, fun w _ => .ioIn (reg5 w) (io6 w), fun _ => true⟩,
  ⟨0xF800, 0xB800, fun w _ => .ioOut (io6 w) (reg5 w), fun _ => true⟩,
  ⟨0xFE0F, 0x920F, fun w _ => .push (reg5 w), fun _ => true⟩,
  ⟨0xFE0F, 0x900F, fun w _ => .pop (reg5 w), fun _ => true⟩]

/-- 43_bit_test.md's and 44_mcu_control.md's rows. -/
def bitRows : List Row := [
  ⟨0xFE0F, 0x9406, fun w _ => .lsr (reg5 w), fun _ => true⟩,
  ⟨0xFE0F, 0x9407, fun w _ => .ror (reg5 w), fun _ => true⟩,
  ⟨0xFE0F, 0x9405, fun w _ => .asr (reg5 w), fun _ => true⟩,
  ⟨0xFE0F, 0x9402, fun w _ => .swap (reg5 w), fun _ => true⟩,
  ⟨0xFF8F, 0x9408, fun w _ => .bset (sregBit w), fun _ => true⟩,
  ⟨0xFF8F, 0x9488, fun w _ => .bclr (sregBit w), fun _ => true⟩,
  ⟨0xFF00, 0x9A00, fun w _ => .sbi (io5 w) (bit3 w), fun _ => true⟩,
  ⟨0xFF00, 0x9800, fun w _ => .cbi (io5 w) (bit3 w), fun _ => true⟩,
  ⟨0xFE08, 0xFA00, fun w _ => .bst (reg5 w) (bit3 w), fun _ => true⟩,
  ⟨0xFE08, 0xF800, fun w _ => .bld (reg5 w) (bit3 w), fun _ => true⟩,
  ⟨0xFFFF, 0x0000, fun _ _ => .nop, fun _ => true⟩,
  ⟨0xFFFF, 0x9588, fun _ _ => .sleep, fun _ => true⟩,
  ⟨0xFFFF, 0x95A8, fun _ _ => .wdr, fun _ => true⟩,
  ⟨0xFFFF, 0x9598, fun _ _ => .brk, fun _ => true⟩]

/-- The opcode table of R139, 95 rows in its order. -/
def rows : List Row := arithRows ++ branchRows ++ loadRows ++ storeRows ++ otherTransferRows ++ bitRows

end Decode

open Decode

/-- R121: the word is the first word of a two-word instruction. -/
def isTwoWord (w : Word) : Bool :=
  Nat.beq (Nat.land w.toNat 0xFE0E) 0x940C || Nat.beq (Nat.land w.toNat 0xFE0E) 0x940E ||
  Nat.beq (Nat.land w.toNat 0xFE0F) 0x9000 || Nat.beq (Nat.land w.toNat 0xFE0F) 0x9200

/-- Why bytes are no instruction. -/
inductive DecodeError where
  /-- The first word matches no row of the opcode table (R140, R141). -/
  | illegal (w : Word)
  /-- Too few bytes for the instruction's words (R120). -/
  | truncated
deriving DecidableEq, Repr

/-- The instruction whose first word is `w1` and whose second, if it has one, is `w2` (R123); none for a first word
that matches no row. -/
def decodeWords (w1 w2 : Word) : Option Instr :=
  (rows.find? (fun row => row.matches w1)).map (fun row => row.build w1 w2)

/-- Program memory is little-endian: a word is `{byte[2w+1], byte[2w]}` (R100). -/
def wordOfBytes (lo hi : Byte) : Word := hi ++ lo

/-- Decode the instruction at the head of `bytes` and give the bytes after it; total on any bytes. -/
def decode : List Byte → Except DecodeError (Instr × List Byte)
  | b0 :: b1 :: rest =>
    let w1 := wordOfBytes b0 b1
    if isTwoWord w1 then
      match rest with
      | b2 :: b3 :: rest' =>
        match decodeWords w1 (wordOfBytes b2 b3) with
        | some i => .ok (i, rest')
        | none => .error (.illegal w1)
      | _ => .error .truncated
    else
      match decodeWords w1 0 with
      | some i => .ok (i, rest)
      | none => .error (.illegal w1)
  | _ => .error .truncated

/-- The instruction whose bits are `w`, bit 0 the least significant bit of the first word and a second word's bits
counted on from bit 16; bits at and above `nbits` are 0. -/
def decodeTableWord (nbits w : Nat) : Option Instr :=
  let v := BitVec.ofNat 32 (w % 2 ^ nbits)
  match decode [v.extractLsb' 0 8, v.extractLsb' 8 8, v.extractLsb' 16 8, v.extractLsb' 24 8] with
  | .ok (i, _) => some i
  | .error _ => none

/-! ### The encoder -/

namespace Encode

/-- A register number in five bits. -/
def r5 (d : Reg) : BitVec 5 := BitVec.ofNat 5 d.val

/-- A register number less 16 in four bits (F_RK, F_MULS). -/
def r4 (d : Reg) : BitVec 4 := BitVec.ofNat 4 (d.val - 16)

/-- A register number less 16 in three bits (F_MUL3). -/
def r3 (d : Reg) : BitVec 3 := BitVec.ofNat 3 (d.val - 16)

/-- The number of an even register's pair in four bits (F_MOVW). -/
def pair4 (d : Reg) : BitVec 4 := BitVec.ofNat 4 (d.val / 2)

/-- A bit number in three bits. -/
def b3 (b : Fin 8) : BitVec 3 := BitVec.ofNat 3 b.val

/-- F_RR, `oooo oord dddd rrrr` (R125). -/
def fRR (op : BitVec 6) (d r : Reg) : Word := op ++ (r5 r).extractLsb' 4 1 ++ r5 d ++ (r5 r).extractLsb' 0 4

/-- F_RK, `oooo KKKK dddd KKKK` (R126). -/
def fRK (op : BitVec 4) (d : Reg) (k : Byte) : Word := op ++ k.extractLsb' 4 4 ++ r4 d ++ k.extractLsb' 0 4

/-- F_R1, `1001 010d dddd oooo` (R127). -/
def fR1 (op : BitVec 4) (d : Reg) : Word := (0b1001010 : BitVec 7) ++ r5 d ++ op

/-- F_LDST, `1001 00sd dddd oooo` (R127), and the first word of F_LDS, whose o is 0000 (R130). -/
def fLDST (store : BitVec 1) (d : Reg) (op : BitVec 4) : Word := (0b100100 : BitVec 6) ++ store ++ r5 d ++ op

/-- F_IW, `1001 011o KKdd KKKK` (R128). -/
def fIW (op : BitVec 1) (d : Reg) (k : BitVec 6) : Word :=
  (0b1001011 : BitVec 7) ++ op ++ k.extractLsb' 4 2 ++ BitVec.ofNat 2 ((d.val - 24) / 2) ++ k.extractLsb' 0 4

/-- F_MOVW, `0000 0001 dddd rrrr` (R129). -/
def fMOVW (d r : Reg) : Word := (0b00000001 : BitVec 8) ++ pair4 d ++ pair4 r

/-- F_MULS, `0000 0010 dddd rrrr` (R129). -/
def fMULS (d r : Reg) : Word := (0b00000010 : BitVec 8) ++ r4 d ++ r4 r

/-- F_MUL3, `0000 0011 addd brrr` (R129). -/
def fMUL3 (a b : BitVec 1) (d r : Reg) : Word := (0b00000011 : BitVec 8) ++ a ++ r3 d ++ b ++ r3 r

/-- F_LDDQ, `10q0 qqsd dddd yqqq` (R131). -/
def fLDDQ (store y : BitVec 1) (d : Reg) (q : BitVec 6) : Word :=
  (0b10 : BitVec 2) ++ q.extractLsb' 5 1 ++ (0 : BitVec 1) ++ q.extractLsb' 3 2 ++ store ++ r5 d ++ y ++ q.extractLsb' 0 3

/-- F_IO, `1011 sAAd dddd AAAA` (R132). -/
def fIO (out : BitVec 1) (d : Reg) (a : BitVec 6) : Word :=
  (0b1011 : BitVec 4) ++ out ++ a.extractLsb' 4 2 ++ r5 d ++ a.extractLsb' 0 4

/-- F_IOB, `1001 10oo AAAA Abbb` (R133). -/
def fIOB (op : BitVec 2) (a : BitVec 5) (b : Fin 8) : Word := (0b100110 : BitVec 6) ++ op ++ a ++ b3 b

/-- F_BR, `1111 0okk kkkk ksss` (R134). -/
def fBR (op : BitVec 1) (s : Fin 8) (k : BitVec 7) : Word := (0b11110 : BitVec 5) ++ op ++ k ++ b3 s

/-- F_RB, `1111 1ood dddd 0bbb` (R135). -/
def fRB (op : BitVec 2) (d : Reg) (b : Fin 8) : Word :=
  (0b11111 : BitVec 5) ++ op ++ r5 d ++ (0 : BitVec 1) ++ b3 b

/-- F_REL, `110o kkkk kkkk kkkk` (R136). -/
def fREL (op : BitVec 1) (k : BitVec 12) : Word := (0b110 : BitVec 3) ++ op ++ k

/-- The first word of F_JC, `1001 010k kkkk 11ok` (R137). -/
def fJC (op : BitVec 1) (k : BitVec 22) : Word :=
  (0b1001010 : BitVec 7) ++ k.extractLsb' 17 5 ++ (0b11 : BitVec 2) ++ op ++ k.extractLsb' 16 1

/-- F_S, `1001 0100 osss 1000` (R138). -/
def fS (op : BitVec 1) (s : Fin 8) : Word := (0b10010100 : BitVec 8) ++ op ++ b3 s ++ (0b1000 : BitVec 4)

end Encode

open Encode

/-- The words of an instruction, the opcode word first (R100, R125 to R138). -/
def encode : Instr → List Word
  | .add d r => [fRR 0b000011 d r]
  | .adc d r => [fRR 0b000111 d r]
  | .adiw d k => [fIW 0 d k]
  | .sub d r => [fRR 0b000110 d r]
  | .subi d k => [fRK 0b0101 d k]
  | .sbc d r => [fRR 0b000010 d r]
  | .sbci d k => [fRK 0b0100 d k]
  | .sbiw d k => [fIW 1 d k]
  | .and d r => [fRR 0b001000 d r]
  | .andi d k => [fRK 0b0111 d k]
  | .or d r => [fRR 0b001010 d r]
  | .ori d k => [fRK 0b0110 d k]
  | .eor d r => [fRR 0b001001 d r]
  | .com d => [fR1 0b0000 d]
  | .neg d => [fR1 0b0001 d]
  | .inc d => [fR1 0b0011 d]
  | .dec d => [fR1 0b1010 d]
  | .mul d r => [fRR 0b100111 d r]
  | .muls d r => [fMULS d r]
  | .mulsu d r => [fMUL3 0 0 d r]
  | .fmul d r => [fMUL3 0 1 d r]
  | .fmuls d r => [fMUL3 1 0 d r]
  | .fmulsu d r => [fMUL3 1 1 d r]
  | .rjmp k => [fREL 0 k]
  | .ijmp => [0b1001010000001001]
  | .eijmp => [0b1001010000011001]
  | .jmp k => [fJC 0 k, k.extractLsb' 0 16]
  | .rcall k => [fREL 1 k]
  | .icall => [0b1001010100001001]
  | .eicall => [0b1001010100011001]
  | .call k => [fJC 1 k, k.extractLsb' 0 16]
  | .ret => [0b1001010100001000]
  | .reti => [0b1001010100011000]
  | .cpse d r => [fRR 0b000100 d r]
  | .cp d r => [fRR 0b000101 d r]
  | .cpc d r => [fRR 0b000001 d r]
  | .cpi d k => [fRK 0b0011 d k]
  | .sbrc r b => [fRB 0b10 r b]
  | .sbrs r b => [fRB 0b11 r b]
  | .sbic a b => [fIOB 0b01 a b]
  | .sbis a b => [fIOB 0b11 a b]
  | .brbs s k => [fBR 0 s k]
  | .brbc s k => [fBR 1 s k]
  | .mov d r => [fRR 0b001011 d r]
  | .movw d r => [fMOVW d r]
  | .ldi d k => [fRK 0b1110 d k]
  | .lds d k => [fLDST 0 d 0b0000, k]
  | .ldX d => [fLDST 0 d 0b1100]
  | .ldXInc d => [fLDST 0 d 0b1101]
  | .ldDecX d => [fLDST 0 d 0b1110]
  | .ldYInc d => [fLDST 0 d 0b1001]
  | .ldDecY d => [fLDST 0 d 0b1010]
  | .ldY d => [fLDDQ 0 1 d 0]
  | .lddY d q => [fLDDQ 0 1 d q]
  | .ldZInc d => [fLDST 0 d 0b0001]
  | .ldDecZ d => [fLDST 0 d 0b0010]
  | .ldZ d => [fLDDQ 0 0 d 0]
  | .lddZ d q => [fLDDQ 0 0 d q]
  | .sts k r => [fLDST 1 r 0b0000, k]
  | .stX r => [fLDST 1 r 0b1100]
  | .stXInc r => [fLDST 1 r 0b1101]
  | .stDecX r => [fLDST 1 r 0b1110]
  | .stYInc r => [fLDST 1 r 0b1001]
  | .stDecY r => [fLDST 1 r 0b1010]
  | .stY r => [fLDDQ 1 1 r 0]
  | .stdY q r => [fLDDQ 1 1 r q]
  | .stZInc r => [fLDST 1 r 0b0001]
  | .stDecZ r => [fLDST 1 r 0b0010]
  | .stZ r => [fLDDQ 1 0 r 0]
  | .stdZ q r => [fLDDQ 1 0 r q]
  | .lpm => [0b1001010111001000]
  | .lpmZ d => [fLDST 0 d 0b0100]
  | .lpmZInc d => [fLDST 0 d 0b0101]
  | .elpm => [0b1001010111011000]
  | .elpmZ d => [fLDST 0 d 0b0110]
  | .elpmZInc d => [fLDST 0 d 0b0111]
  | .spm => [0b1001010111101000]
  | .ioIn d a => [fIO 0 d a]
  | .ioOut a r => [fIO 1 r a]
  | .push r => [fLDST 1 r 0b1111]
  | .pop d => [fLDST 0 d 0b1111]
  | .lsr d => [fR1 0b0110 d]
  | .ror d => [fR1 0b0111 d]
  | .asr d => [fR1 0b0101 d]
  | .swap d => [fR1 0b0010 d]
  | .bset s => [fS 0 s]
  | .bclr s => [fS 1 s]
  | .sbi a b => [fIOB 0b10 a b]
  | .cbi a b => [fIOB 0b00 a b]
  | .bst d b => [fRB 0b01 d b]
  | .bld d b => [fRB 0b00 d b]
  | .nop => [0b0000000000000000]
  | .sleep => [0b1001010110001000]
  | .wdr => [0b1001010110101000]
  | .brk => [0b1001010110011000]

/-- The bytes of a word as program memory holds them, the low byte first (R100). -/
def bytesOfWord (w : Word) : List Byte := [w.extractLsb' 0 8, w.extractLsb' 8 8]

/-- The bytes of an instruction in program memory. -/
def encodeBytes (i : Instr) : List Byte := (encode i).flatMap bytesOfWord

end Sys2Proof
end

