-- ==== Sys2Proof/Machine/Io.lean ====
section
/-! DEFINITION. The I/O window (20_memory.md sections 3 and 4): which address is which register, and what reading and
writing each does. -/

namespace Sys2Proof.Machine

/-- The registers of the I/O window (R60). -/
inductive IoReg where
  | pin (p : PortName)
  | ddr (p : PortName)
  | port (p : PortName)
  | tifr0
  | gpior0
  | tccr0a
  | tccr0b
  | tcnt0
  | ocr0a
  | ocr0b
  | gpior1
  | gpior2
  | smcr
  | mcucr
  | rampz
  | eind
  | spl
  | sph
  | sreg
  | timsk0
  | ucsr0a
  | ucsr0b
  | ucsr0c
  | ubrr0l
  | ubrr0h
  | udr0
deriving DecidableEq, Repr

/-- The ports' registers by data address (R52). -/
def portMap : List (Nat × IoReg) := [
  (0x20, .pin .a), (0x21, .ddr .a), (0x22, .port .a), (0x23, .pin .b), (0x24, .ddr .b), (0x25, .port .b),
  (0x26, .pin .c), (0x27, .ddr .c), (0x28, .port .c), (0x29, .pin .d), (0x2A, .ddr .d), (0x2B, .port .d),
  (0x2C, .pin .e), (0x2D, .ddr .e), (0x2E, .port .e), (0x2F, .pin .f), (0x30, .ddr .f), (0x31, .port .f),
  (0x32, .pin .g), (0x33, .ddr .g), (0x34, .port .g)]

/-- The core's, Timer0's and USART0's registers by data address (R60). -/
def unitMap : List (Nat × IoReg) := [
  (0x35, .tifr0), (0x3E, .gpior0), (0x44, .tccr0a), (0x45, .tccr0b), (0x46, .tcnt0), (0x47, .ocr0a), (0x48, .ocr0b),
  (0x4A, .gpior1), (0x4B, .gpior2), (0x53, .smcr), (0x55, .mcucr), (0x5B, .rampz), (0x5C, .eind), (0x5D, .spl),
  (0x5E, .sph), (0x5F, .sreg), (0x6E, .timsk0), (0xC0, .ucsr0a), (0xC1, .ucsr0b), (0xC2, .ucsr0c), (0xC4, .ubrr0l),
  (0xC5, .ubrr0h), (0xC6, .udr0)]

/-- The extended ports' registers by data address (R52). -/
def extendedPortMap : List (Nat × IoReg) := [
  (0x100, .pin .h), (0x101, .ddr .h), (0x102, .port .h), (0x103, .pin .j), (0x104, .ddr .j), (0x105, .port .j),
  (0x106, .pin .k), (0x107, .ddr .k), (0x108, .port .k), (0x109, .pin .l), (0x10A, .ddr .l), (0x10B, .port .l)]

/-- Every claimed address of the I/O window (R60). -/
def ioMap : List (Nat × IoReg) := portMap ++ unitMap ++ extendedPortMap

/-- The register that claims data address a, if any (R91, R93). -/
def ioReg (a : Nat) : Option IoReg := ioMap.lookup a

namespace Device

/-- The value a read of the register returns (R91): read-only and reserved bits as 10_state.md states them. -/
def ioValue (d : Device) : IoReg → Byte
  | .pin p => d.pinRead p
  | .ddr p => (d.portRegs p).ddr
  | .port p => (d.portRegs p).port
  | .tifr0 => d.timer.tifr0
  | .gpior0 => d.ctl.gpior0
  | .tccr0a => d.timer.tccr0a
  | .tccr0b => d.timer.tccr0b
  | .tcnt0 => d.timer.tcnt0
  | .ocr0a => d.timer.ocr0aBuf
  | .ocr0b => d.timer.ocr0bBuf
  | .gpior1 => d.ctl.gpior1
  | .gpior2 => d.ctl.gpior2
  | .smcr => d.ctl.smcr
  | .mcucr => d.ctl.mcucr
  | .rampz => d.ctl.rampz
  | .eind => d.ctl.eind
  | .spl => d.sp.extractLsb' 0 8
  | .sph => d.sp.extractLsb' 8 8
  | .sreg => d.sreg
  | .timsk0 => d.timer.timsk0
  | .ucsr0a => d.usart.ucsr0a
  | .ucsr0b => d.usart.ucsr0b
  | .ucsr0c => d.usart.ucsr0c
  | .ubrr0l => d.usart.ubrr0l
  | .ubrr0h => d.usart.ubrr0h
  | .udr0 => d.usart.rxBuf

/-- The side effect of a read (R94): UDR0 alone has one. A PIN read changes no state of the spec's; it consumes a draw
of the model's own (log 8). -/
def afterIoRead (d : Device) : IoReg → Device
  | .udr0 => { d with usart := d.usart.afterUdr0Read }
  | .pin _ => { d with draws := d.draws + 1 }
  | .ddr _ | .port _ | .tifr0 | .gpior0 | .tccr0a | .tccr0b | .tcnt0 | .ocr0a | .ocr0b | .gpior1 | .gpior2 | .smcr
  | .mcucr | .rampz | .eind | .spl | .sph | .sreg | .timsk0 | .ucsr0a | .ucsr0b | .ucsr0c | .ubrr0l | .ubrr0h => d

/-- `IoRead(a)` (R91, R93). -/
def ioRead (d : Device) (a : Nat) : Except FaultDetail (Byte × Device) :=
  match ioReg a with
  | some r => .ok (d.ioValue r, d.afterIoRead r)
  | none => .error (.bus .read a)

def setCtl (d : Device) (c : Control) : Device := { d with ctl := c }
def setTimer (d : Device) (t : Timer0) : Device := { d with timer := t }
def setUsart (d : Device) (u : Usart0) : Device := { d with usart := u }

/-- A write to MCUCR (R43): JTD and PUD are stored, IVSEL = 1 is refused, IVCE has no effect. -/
def writeMcucr (d : Device) (v mask : Byte) : Except FaultDetail Device :=
  if bitOf (v &&& mask) 1 then .error (.unmodelled .mcucrIvsel)
  else .ok (d.setCtl { d.ctl with mcucr := storeBits 0x90 d.ctl.mcucr v mask })

/-- A write to PINx toggles the PORTx bits written 1 (R53, R515). -/
def togglePort (d : Device) (p : PortName) (v mask : Byte) : Device :=
  let r := d.portRegs p
  d.setPortRegs p { r with port := r.port ^^^ (v &&& (mask &&& p.pins)) }

def writeDdr (d : Device) (p : PortName) (v mask : Byte) : Device :=
  let r := d.portRegs p
  d.setPortRegs p { r with ddr := storeBits p.pins r.ddr v mask }

def writePort (d : Device) (p : PortName) (v mask : Byte) : Device :=
  let r := d.portRegs p
  d.setPortRegs p { r with port := storeBits p.pins r.port v mask }

/-- The free live compare value of an OCR0x write (log 9) and the Device with that draw consumed. -/
def ocrDraw (d : Device) (v : Byte) : Byte × Device :=
  (Config.ocrInUnmodelledMode d.name d.draws v, { d with draws := d.draws + 1 })

/-- A write to the register (R92): each bit with `mask` = 1 by its class, then the register's side effects (R95). -/
def ioStore (d : Device) (v mask : Byte) : IoReg → Except FaultDetail Device
  | .pin p => .ok (d.togglePort p v mask)
  | .ddr p => .ok (d.writeDdr p v mask)
  | .port p => .ok (d.writePort p v mask)
  | .tifr0 => .ok (d.setTimer (d.timer.writeTifr0 v mask))
  | .gpior0 => .ok (d.setCtl { d.ctl with gpior0 := storeBits 0xFF d.ctl.gpior0 v mask })
  | .tccr0a => (d.timer.writeTccr0a v mask).map d.setTimer
  | .tccr0b => (d.timer.writeTccr0b v mask).map d.setTimer
  | .tcnt0 => .ok (d.setTimer (d.timer.writeTcnt0 v mask))
  | .ocr0a => .ok ((d.ocrDraw v).2.setTimer (d.timer.writeOcr0a v mask (d.ocrDraw v).1))
  | .ocr0b => .ok ((d.ocrDraw v).2.setTimer (d.timer.writeOcr0b v mask (d.ocrDraw v).1))
  | .gpior1 => .ok (d.setCtl { d.ctl with gpior1 := storeBits 0xFF d.ctl.gpior1 v mask })
  | .gpior2 => .ok (d.setCtl { d.ctl with gpior2 := storeBits 0xFF d.ctl.gpior2 v mask })
  | .smcr => .ok (d.setCtl { d.ctl with smcr := storeBits 0x0F d.ctl.smcr v mask })
  | .mcucr => d.writeMcucr v mask
  | .rampz => .ok (d.setCtl { d.ctl with rampz := storeBits 0x03 d.ctl.rampz v mask })
  | .eind => .ok (d.setCtl { d.ctl with eind := storeBits 0x01 d.ctl.eind v mask })
  | .spl => .ok { d with sp := d.sp.extractLsb' 8 8 ++ storeBits 0xFF (d.sp.extractLsb' 0 8) v mask }
  | .sph => .ok { d with sp := storeBits 0xFF (d.sp.extractLsb' 8 8) v mask ++ d.sp.extractLsb' 0 8 }
  | .sreg => .ok { d with sreg := storeBits 0xFF d.sreg v mask }
  | .timsk0 => .ok (d.setTimer (d.timer.writeTimsk0 v mask))
  | .ucsr0a => (d.usart.writeUcsr0a v mask).map d.setUsart
  | .ucsr0b => (d.usart.writeUcsr0b v mask).map d.setUsart
  | .ucsr0c => (d.usart.writeUcsr0c v mask).map d.setUsart
  | .ubrr0l => .ok (d.setUsart (d.usart.writeUbrr0l v mask))
  | .ubrr0h => .ok (d.setUsart (d.usart.writeUbrr0h v mask))
  | .udr0 => .ok (d.setUsart (d.usart.writeUdr0 v))

/-- `IoWrite(a, v, mask)` (R92, R93). -/
def ioWrite (d : Device) (a : Nat) (v mask : Byte) : Except FaultDetail Device :=
  match ioReg a with
  | some r => d.ioStore v mask r
  | none => .error (.bus .write a)

end Device

end Sys2Proof.Machine
end

