-- ==== Sys2Proof/Machine/Interrupts.lean ====
section
/-! DEFINITION. The interrupt controller (60_exceptions.md section 2): its pending and enabled bitsets are views of
the peripherals' flags and enables (R411). Taking a vector is `Device.takeVector` in Ops.lean. -/

namespace Sys2Proof.Machine

/-- The six vectors with a modelled source (R410), in numeric order. -/
inductive Vec where
  | timer0CompA
  | timer0CompB
  | timer0Ovf
  | usart0Rx
  | usart0Udre
  | usart0Tx
deriving DecidableEq, Repr

namespace Vec

/-- The vector number n (R410). -/
def number : Vec → Nat
  | .timer0CompA => 21
  | .timer0CompB => 22
  | .timer0Ovf => 23
  | .usart0Rx => 25
  | .usart0Udre => 26
  | .usart0Tx => 27

/-- The program word address 2·n (R415). -/
def address (v : Vec) : ProgAddr := BitVec.ofNat 17 (2 * v.number)

/-- The six in priority order, the lowest number first (R412). -/
def all : List Vec := [.timer0CompA, .timer0CompB, .timer0Ovf, .usart0Rx, .usart0Udre, .usart0Tx]

end Vec

namespace Device

/-- The flag of a vector (R410). -/
def vecFlag (d : Device) : Vec → Bool
  | .timer0CompA => bitOf d.timer.tifr0 Timer0.ocfABit
  | .timer0CompB => bitOf d.timer.tifr0 Timer0.ocfBBit
  | .timer0Ovf => bitOf d.timer.tifr0 Timer0.tovBit
  | .usart0Rx => d.usart.rxc
  | .usart0Udre => d.usart.udre
  | .usart0Tx => d.usart.txc

/-- `enabled[n]` (R411). -/
def vecEnabled (d : Device) : Vec → Bool
  | .timer0CompA => bitOf d.timer.timsk0 Timer0.ocfABit
  | .timer0CompB => bitOf d.timer.timsk0 Timer0.ocfBBit
  | .timer0Ovf => bitOf d.timer.timsk0 Timer0.tovBit
  | .usart0Rx => d.usart.rxcie
  | .usart0Udre => d.usart.udrie
  | .usart0Tx => d.usart.txcie

/-- `pending[n]`: the flag of an event source; the flag of a level source whose `fired` latch is clear (R411). -/
def vecPending (d : Device) (v : Vec) : Bool :=
  match v with
  | .usart0Rx => d.vecFlag v && !d.fired25
  | .usart0Udre => d.vecFlag v && !d.fired26
  | .timer0CompA | .timer0CompB | .timer0Ovf | .usart0Tx => d.vecFlag v

/-- The lowest eligible vector (R412). -/
def eligible (d : Device) : Option Vec := Vec.all.find? (fun v => d.vecPending v && d.vecEnabled v)

/-- What vectoring does to the source: an event flag is cleared, a level source's latch is set (R416 step 4). -/
def acknowledge (d : Device) : Vec → Device
  | .timer0CompA => d.setTimer { d.timer with tifr0 := setBit d.timer.tifr0 Timer0.ocfABit false }
  | .timer0CompB => d.setTimer { d.timer with tifr0 := setBit d.timer.tifr0 Timer0.ocfBBit false }
  | .timer0Ovf => d.setTimer { d.timer with tifr0 := setBit d.timer.tifr0 Timer0.tovBit false }
  | .usart0Rx => { d with fired25 := true }
  | .usart0Udre => { d with fired26 := true }
  | .usart0Tx => d.setUsart { d.usart with txc := false }

/-- The `fired` latches after an instruction's effect and after the ticks: a latch whose flag is 0 clears (R413). -/
def refreshFired (d : Device) : Device :=
  { d with fired25 := d.fired25 && d.usart.rxc, fired26 := d.fired26 && d.usart.udre }

end Device

end Sys2Proof.Machine
end

