-- ==== Sys2Proof/Machine/Ops.lean ====
section
/-! DEFINITION. The named operations of a Device: registers, the program counter, data space, program memory, the
stack, skips, and its two exceptional transfers: halting on a fault (R400) and taking a vector (R416), with the
returns beside them. An operation that can raise a fault answers an `Except`: `raise F(info)` keeps no part of the
effect (00_scope.md R13). -/

namespace Sys2Proof

namespace Config

/-- A word address modulo 2^PC_BITS (R37). -/
def wrapPc (c : Config) (x : ProgAddr) : ProgAddr :=
  match c.pcBits with
  | .w16 => x &&& 0xFFFF
  | .w17 => x

/-- A cost the spec writes "n / n+1" for `PC_BITS` = 16 / 17 (R620). -/
def wideCost (c : Config) (n : Nat) : Nat :=
  match c.pcBits with
  | .w16 => n
  | .w17 => n + 1

end Config

namespace Machine

/-- The pointer pairs (R31). -/
inductive Ptr where
  | x
  | y
  | z
deriving DecidableEq, Repr

/-- The low register of a pointer pair (R31). -/
def Ptr.low : Ptr → Reg
  | .x => 26
  | .y => 28
  | .z => 30

namespace Device

/-! ### General registers (R30 to R32) -/

/-- `x[r]` -/
def reg (d : Device) (r : Reg) : Byte := d.regs[r.val]

/-- `x[r] <- v` -/
def setReg (d : Device) (r : Reg) (v : Byte) : Device := { d with regs := d.regs.set r.val v }

/-- `pair(r) = {x[r+1], x[r]}` (R12). -/
def pair (d : Device) (r : Reg) : Word := d.reg (r + 1) ++ d.reg r

/-- `pair(r) <- v`: the low byte to Rr, the high byte to Rr+1. -/
def setPair (d : Device) (r : Reg) (v : Word) : Device :=
  (d.setReg r (v.extractLsb' 0 8)).setReg (r + 1) (v.extractLsb' 8 8)

/-- X, Y or Z (R31). -/
def ptr (d : Device) (p : Ptr) : Word := d.pair p.low

/-- `P <- v` -/
def setPtr (d : Device) (p : Ptr) (v : Word) : Device := d.setPair p.low v

/-! ### SREG (R34, R36) -/

def setSreg (d : Device) (v : Byte) : Device := { d with sreg := v }

/-- `SREG.C`, bit 0. -/
def carry (d : Device) : Bool := bitOf d.sreg 0

/-- `SREG.T`, bit 6. -/
def tFlag (d : Device) : Bool := bitOf d.sreg 6

/-- `SREG.I`, bit 7, the global interrupt enable. -/
def iFlag (d : Device) : Bool := bitOf d.sreg 7

/-! ### The program counter (R37, R250) and the end of an instruction -/

/-- An instruction of `words` words and `cycles` cycles that transfers no control completes: the pc passes it, T moves
on (R37, R530), and `inhibit` is cleared (R414, R417). -/
def advance (c : Config) (d : Device) (words : ProgAddr) (cycles : Nat) : Device :=
  { d with pc := c.wrapPc (d.pc + words), time := d.time + cycles, inhibit := false }

/-- An instruction that transfers control to `target` completes. -/
def jumpTo (d : Device) (target : ProgAddr) (cycles : Nat) : Device :=
  { d with pc := target, time := d.time + cycles, inhibit := false }

/-- A relative target, `(pc + 1 + k) mod M`, with k a signed word offset (R250). -/
def relTarget (c : Config) (d : Device) {n : Nat} (k : BitVec n) : ProgAddr :=
  c.wrapPc (d.pc + 1 + k.signExtend 17)

/-- A target checked against M: at or above it, BusFault(fetch, 2·target) (R250). -/
def checkTarget (c : Config) (target : Nat) : Except FaultDetail ProgAddr :=
  if target < c.pcModulus then .ok (BitVec.ofNat 17 target) else .error (.bus .fetch (2 * target))

/-- `{EIND[0], Z}` (R250, R254). -/
def extTarget (d : Device) : Nat := (d.ctl.eind.extractLsb' 0 1 ++ d.ptr .z).toNat

/-! ### Program memory (R84, R85, R100) -/

/-- The program byte at an address, whether or not it exists. -/
def progByte (d : Device) (a : Nat) : Byte := Memory.read .program d.prog a

/-- `ProgRead(baddr)` (R84). -/
def progRead (c : Config) (d : Device) (a : Nat) : Except FaultDetail Byte :=
  if a < c.progBytes then .ok (d.progByte a) else .error (.bus .read a)

/-- The program word at a word address, `{byte[2w+1], byte[2w]}` (R100). -/
def progWord (d : Device) (w : ProgAddr) : Word :=
  wordOfBytes (d.progByte (2 * w.toNat)) (d.progByte (2 * w.toNat + 1))

/-- `Fetch(w)` (R85). -/
def fetch (c : Config) (d : Device) (w : ProgAddr) : Except FaultDetail Word :=
  if 2 * w.toNat + 1 < c.progBytes then .ok (d.progWord w) else .error (.bus .fetch (2 * w.toNat))

/-- The instruction at pc, with the checks of R409 steps 1 to 3 in their order (R123). -/
def fetchInstr (c : Config) (d : Device) : Except FaultDetail Instr :=
  match d.fetch c d.pc with
  | .error e => .error e
  | .ok w1 =>
    match decodeWords w1 0 with
    | none => .error (.decode w1)
    | some i =>
      if isTwoWord w1 then
        match d.fetch c (c.wrapPc (d.pc + 1)) with
        | .error e => .error e
        | .ok w2 => .ok ((decodeWords w1 w2).getD i)
      else .ok i

/-- `E = {RAMPZ[1:0], Z}`, the program byte address of ELPM and SPM (R333, R337). -/
def extAddr (d : Device) : BitVec 18 := d.ctl.rampz.extractLsb' 0 2 ++ d.ptr .z

/-- `RAMPZ[1:0] <- E[17:16]; Z <- E[15:0]` (R336). -/
def setExtAddr (d : Device) (e : BitVec 18) : Device :=
  (d.setCtl { d.ctl with rampz := d.ctl.rampz.extractLsb' 2 6 ++ e.extractLsb' 16 2 }).setPtr .z (e.extractLsb' 0 16)

/-! ### Data space (R81, R88, R89) -/

/-- The SRAM byte at a data address. -/
def sramByte (d : Device) (a : Nat) : Byte := Memory.read .sram d.sram a

def setSramByte (d : Device) (a : Nat) (v : Byte) : Device := { d with sram := Memory.write .sram d.sram a v }

/-- `MemRead(a, 1)` (R88): the byte, and the Device after the read's side effect. -/
def memRead (d : Device) (a : Word) : Except FaultDetail (Byte × Device) :=
  if a.toNat ≤ 0x1F then .ok (d.reg (Fin.ofNat 32 a.toNat), d)
  else if a.toNat ≤ 0x1FF then d.ioRead a.toNat
  else if a.toNat ≤ 0x21FF then .ok (d.sramByte a.toNat, d)
  else .error (.bus .read a.toNat)

/-- `MemWrite(a, 1, v)` (R89). -/
def memWrite (d : Device) (a : Word) (v : Byte) : Except FaultDetail Device :=
  if a.toNat ≤ 0x1F then .ok (d.setReg (Fin.ofNat 32 a.toNat) v)
  else if a.toNat ≤ 0x1FF then d.ioWrite a.toNat v 0xFF
  else if a.toNat ≤ 0x21FF then .ok (d.setSramByte a.toNat v)
  else .error (.bus .write a.toNat)

/-! ### The stack (R96 to R99) -/

/-- The address lies in SRAM, `SRAM_START` to `RAMEND` (R404). -/
def inSram (a : Word) : Bool := 0x200 ≤ a.toNat && a.toNat ≤ 0x21FF

def setSp (d : Device) (v : Word) : Device := { d with sp := v }

/-- `Push8(v)` (R96). -/
def push8 (d : Device) (v : Byte) : Except FaultDetail Device :=
  if inSram d.sp then .ok ((d.setSramByte d.sp.toNat v).setSp (d.sp - 1)) else .error (.stack .push d.sp)

/-- `Pop8()` (R97). -/
def pop8 (d : Device) : Except FaultDetail (Byte × Device) :=
  if inSram (d.sp + 1) then .ok (d.sramByte (d.sp + 1).toNat, d.setSp (d.sp + 1))
  else .error (.stack .pop (d.sp + 1))

/-- Several pushes; the first that fails is the fault and nothing is kept (R98). -/
def pushBytes (d : Device) : List Byte → Except FaultDetail Device
  | [] => .ok d
  | v :: vs =>
    match d.push8 v with
    | .ok d' => d'.pushBytes vs
    | .error e => .error e

/-- The bytes of a return address, low byte first (R99, R251). -/
def raBytesOf (c : Config) (v : ProgAddr) : List Byte :=
  match c.pcBits with
  | .w16 => [v.extractLsb' 0 8, v.extractLsb' 8 8]
  | .w17 => [v.extractLsb' 0 8, v.extractLsb' 8 8, v.extractLsb' 16 8]

/-- `PushRA(v)` (R99). -/
def pushRA (c : Config) (d : Device) (v : ProgAddr) : Except FaultDetail Device := d.pushBytes (raBytesOf c v)

/-- n pops onto `v`, high byte first: `v <- (v << 8) | Pop8()` (R99). -/
def popBytes (d : Device) (v : Nat) : Nat → Except FaultDetail (Nat × Device)
  | 0 => .ok (v, d)
  | n + 1 =>
    match d.pop8 with
    | .ok (b, d') => d'.popBytes (256 * v + b.toNat) n
    | .error e => .error e

/-- `PopRA()` (R99). -/
def popRA (c : Config) (d : Device) : Except FaultDetail (Nat × Device) := d.popBytes 0 c.pcBits.raBytes

/-- A call: the return address is pushed, then control goes to `target` (R251). -/
def call (c : Config) (d : Device) (words : ProgAddr) (target : ProgAddr) (cycles : Nat) :
    Except FaultDetail Device :=
  (d.pushRA c (c.wrapPc (d.pc + words))).map fun d' => d'.jumpTo target cycles

/-- RET's operation (R260): the pops, then the target check. -/
def returnTo (c : Config) (d : Device) : Except FaultDetail Device :=
  match d.popRA c with
  | .error e => .error e
  | .ok (target, d') => (checkTarget c target).map fun t => d'.jumpTo t (c.wideCost 4)

/-! ### Skips (R262, R122) -/

/-- The length in words of the instruction whose first word is w (R121). -/
def skipLength (w : Word) : Nat := if isTwoWord w then 2 else 1

/-- `Skip()` when `cond` holds; else on to the next instruction (R262). -/
def skipIf (c : Config) (d : Device) (cond : Bool) : Except FaultDetail Device :=
  if cond then
    (d.fetch c (c.wrapPc (d.pc + 1))).map fun w =>
      d.advance c (BitVec.ofNat 17 (1 + skipLength w)) (1 + skipLength w)
  else .ok (d.advance c 1 1)

/-! ### Halting on a fault (R400, R401) -/

/-- The Device halts with the fault's record and nothing else changes; T does not advance (R400). -/
def halt (d : Device) (e : FaultDetail) : Device :=
  { d with mode := .halted { device := d.name, pc := d.pc, time := d.time, detail := e } }

def isHalted (d : Device) : Bool :=
  match d.mode with
  | .halted _ => true
  | .running | .sleeping => false

/-! ### Taking a vector and returning from it (R416, R424, R261) -/

/-- The vectoring sequence for v (R416), at an added cost `wake` when the Device was sleeping (R424): the pc is
pushed, I is cleared, the source is acknowledged, and control goes to the vector's address. -/
def takeVector (c : Config) (d : Device) (v : Vec) (wake : Nat) : Except FaultDetail Device :=
  (d.pushRA c d.pc).map fun d' =>
    { (d'.acknowledge v) with
      sreg := setBit d.sreg 7 false
      pc := v.address
      mode := .running
      time := d.time + (c.wideCost 4 + wake) }

/-- RETI (R261): as RET, then I is set and `inhibit` with it. -/
def returnFromInterrupt (c : Config) (d : Device) : Except FaultDetail Device :=
  (d.returnTo c).map fun d' => { d' with sreg := setBit d'.sreg 7 true, inhibit := true }

end Device

/-! ### A Device's effect as an effect on the run -/

/-- The Device under study after an effect: the effect's result, or, when it raised a fault, the Device as it was,
halted (R400). Nothing else of the run changes: "per-Device faults are local". -/
def State.retire (s : State) (e : Except FaultDetail Device) : Host.Outcome State Fault Refusal :=
  .next { s with dev := match e with | .ok d => d | .error f => s.dev.halt f }

/-- The vectoring sequence as a step of the run (R416). -/
def State.takeInterrupt (s : State) (v : Vec) (wake : Nat) : Host.Outcome State Fault Refusal :=
  s.retire (s.dev.takeVector s.cfg v wake)

end Machine

end Sys2Proof
end

