-- ==== Sys2Proof/Machine/Operands.lean ====
section
/-! DEFINITION. The operand forms of loads and stores (42_data_transfer.md R300). -/

namespace Sys2Proof.Machine

/-- The indirect modes of R300. -/
inductive PtrMode where
  /-- `P`: P is unchanged. -/
  | plain
  /-- `P+`: the access, then `P <- P + 1`. -/
  | postInc
  /-- `-P`: `P <- P - 1`, then the access. -/
  | preDec
  /-- `P+q`: P is unchanged. -/
  | disp (q : BitVec 6)
deriving DecidableEq, Repr

namespace Device

/-- The data address an indirect form accesses (R300). -/
def ptrAddr (d : Device) (p : Ptr) : PtrMode → Word
  | .plain => d.ptr p
  | .postInc => d.ptr p
  | .preDec => d.ptr p - 1
  | .disp q => d.ptr p + q.setWidth 16

/-- The Device `d` with the pointer's update applied, from the value `old` the pointer had when the instruction
started (R300; R316: "the increment wins"; log 12). -/
def ptrUpdate (d : Device) (p : Ptr) (old : Word) : PtrMode → Device
  | .plain => d
  | .postInc => d.setPtr p (old + 1)
  | .preDec => d.setPtr p (old - 1)
  | .disp _ => d

/-- A load from data address a into Rd, `words` words and 2 cycles (R304, R305). -/
def loadFrom (c : Config) (d : Device) (rd : Reg) (a : Word) (words : ProgAddr) : Except FaultDetail Device :=
  (d.memRead a).map fun (v, d') => (d'.setReg rd v).advance c words 2

/-- `LD Rd, mode` (R305 to R313): the read, the pointer's update, the register. -/
def load (c : Config) (d : Device) (rd : Reg) (p : Ptr) (mode : PtrMode) : Except FaultDetail Device :=
  (d.memRead (d.ptrAddr p mode)).map fun (v, d') =>
    ((d'.ptrUpdate p (d.ptr p) mode).setReg rd v).advance c 1 2

/-- A store of Rr to data address a, `words` words and 2 cycles (R314, R315). -/
def storeTo (c : Config) (d : Device) (rr : Reg) (a : Word) (words : ProgAddr) : Except FaultDetail Device :=
  (d.memWrite a (d.reg rr)).map fun d' => d'.advance c words 2

/-- `ST mode, Rr` (R315 to R323): the write, then the pointer's update. -/
def store (c : Config) (d : Device) (rr : Reg) (p : Ptr) (mode : PtrMode) : Except FaultDetail Device :=
  (d.memWrite (d.ptrAddr p mode) (d.reg rr)).map fun d' => (d'.ptrUpdate p (d.ptr p) mode).advance c 1 2

/-- The data address of I/O number `a`, a + 0x20 (R90). -/
def ioAddr {n : Nat} (a : BitVec n) : Nat := a.toNat + 0x20

/-- The mask that names bit b alone (R92: `1 << b`). -/
def bitMask (b : Fin 8) : Byte := 1#8 <<< b.val

/-- A program-memory read into Rd, 3 cycles (R330 to R332, R334 to R336); `after` is the pointer's update. -/
def loadProg (c : Config) (d : Device) (rd : Reg) (a : Nat) (after : Device → Device) : Except FaultDetail Device :=
  (d.progRead c a).map fun v => ((after d).setReg rd v).advance c 1 3

end Device

end Sys2Proof.Machine
end

