-- ==== Sys2Proof/Machine/Arith.lean ====
section
/-! DEFINITION. The meanings of 40_arith_logic.md's additions, subtractions and logic (R203 to R219), and of the
compares, which set the same flags and write no register (41_branch.md R264 to R266). -/

namespace Sys2Proof.Machine

namespace State

/-- Rd and SREG are written and the next instruction follows after one cycle (R202). -/
def aluWrite (s : State) (d : Reg) (v sreg : Byte) : Host.Outcome State Fault Refusal :=
  s.retire (.ok (((s.dev.setReg d v).setSreg sreg).advance s.cfg 1 1))

/-- SREG is written and the next instruction follows after one cycle. -/
def sregWrite (s : State) (sreg : Byte) : Host.Outcome State Fault Refusal :=
  s.retire (.ok ((s.dev.setSreg sreg).advance s.cfg 1 1))

/-- A pair and SREG are written and the next instruction follows after two cycles (R205, R210). -/
def pairWrite (s : State) (d : Reg) (v : Word) (sreg : Byte) : Host.Outcome State Fault Refusal :=
  s.retire (.ok (((s.dev.setPair d v).setSreg sreg).advance s.cfg 1 2))

/-- The carry flag as a byte. -/
def carryIn (s : State) : Byte := if s.dev.carry then 1 else 0

end State

/-- ADD Rd, Rr (R203). -/
def execAdd (d r : Reg) (s : State) : Host.Outcome State Fault Refusal :=
  let a := s.dev.reg d
  let b := s.dev.reg r
  s.aluWrite d (a + b) (addFlags s.dev.sreg a b (a + b))

/-- ADC Rd, Rr (R204). -/
def execAdc (d r : Reg) (s : State) : Host.Outcome State Fault Refusal :=
  let a := s.dev.reg d
  let b := s.dev.reg r
  s.aluWrite d (a + b + s.carryIn) (addFlags s.dev.sreg a b (a + b + s.carryIn))

/-- ADIW Rd+1:Rd, K (R205). -/
def execAdiw (d : Reg) (k : BitVec 6) (s : State) : Host.Outcome State Fault Refusal :=
  let a := s.dev.pair d
  let r := a + k.setWidth 16
  s.pairWrite d r (adiwFlags s.dev.sreg a r)

/-- SUB Rd, Rr (R206). -/
def execSub (d r : Reg) (s : State) : Host.Outcome State Fault Refusal :=
  let a := s.dev.reg d
  let b := s.dev.reg r
  s.aluWrite d (a - b) (subFlags s.dev.sreg a b (a - b))

/-- SUBI Rd, K (R207). -/
def execSubi (d : Reg) (k : Byte) (s : State) : Host.Outcome State Fault Refusal :=
  let a := s.dev.reg d
  s.aluWrite d (a - k) (subFlags s.dev.sreg a k (a - k))

/-- SBC Rd, Rr (R208). -/
def execSbc (d r : Reg) (s : State) : Host.Outcome State Fault Refusal :=
  let a := s.dev.reg d
  let b := s.dev.reg r
  s.aluWrite d (a - b - s.carryIn) (subFlagsZ s.dev.sreg a b (a - b - s.carryIn))

/-- SBCI Rd, K (R209). -/
def execSbci (d : Reg) (k : Byte) (s : State) : Host.Outcome State Fault Refusal :=
  let a := s.dev.reg d
  s.aluWrite d (a - k - s.carryIn) (subFlagsZ s.dev.sreg a k (a - k - s.carryIn))

/-- SBIW Rd+1:Rd, K (R210). -/
def execSbiw (d : Reg) (k : BitVec 6) (s : State) : Host.Outcome State Fault Refusal :=
  let a := s.dev.pair d
  let r := a - k.setWidth 16
  s.pairWrite d r (sbiwFlags s.dev.sreg a r)

/-- AND Rd, Rr (R211). -/
def execAnd (d r : Reg) (s : State) : Host.Outcome State Fault Refusal :=
  let v := s.dev.reg d &&& s.dev.reg r
  s.aluWrite d v (logicFlags s.dev.sreg v)

/-- ANDI Rd, K (R212). -/
def execAndi (d : Reg) (k : Byte) (s : State) : Host.Outcome State Fault Refusal :=
  let v := s.dev.reg d &&& k
  s.aluWrite d v (logicFlags s.dev.sreg v)

/-- OR Rd, Rr (R213). -/
def execOr (d r : Reg) (s : State) : Host.Outcome State Fault Refusal :=
  let v := s.dev.reg d ||| s.dev.reg r
  s.aluWrite d v (logicFlags s.dev.sreg v)

/-- ORI Rd, K (R214). -/
def execOri (d : Reg) (k : Byte) (s : State) : Host.Outcome State Fault Refusal :=
  let v := s.dev.reg d ||| k
  s.aluWrite d v (logicFlags s.dev.sreg v)

/-- EOR Rd, Rr (R215). -/
def execEor (d r : Reg) (s : State) : Host.Outcome State Fault Refusal :=
  let v := s.dev.reg d ^^^ s.dev.reg r
  s.aluWrite d v (logicFlags s.dev.sreg v)

/-- COM Rd (R216). -/
def execCom (d : Reg) (s : State) : Host.Outcome State Fault Refusal :=
  let v := 0xFF - s.dev.reg d
  s.aluWrite d v (comFlags s.dev.sreg v)

/-- NEG Rd (R217). -/
def execNeg (d : Reg) (s : State) : Host.Outcome State Fault Refusal :=
  let a := s.dev.reg d
  s.aluWrite d (0 - a) (negFlags s.dev.sreg a (0 - a))

/-- INC Rd (R218). -/
def execInc (d : Reg) (s : State) : Host.Outcome State Fault Refusal :=
  let v := s.dev.reg d + 1
  s.aluWrite d v (incFlags s.dev.sreg v)

/-- DEC Rd (R219). -/
def execDec (d : Reg) (s : State) : Host.Outcome State Fault Refusal :=
  let v := s.dev.reg d - 1
  s.aluWrite d v (decFlags s.dev.sreg v)

/-- CP Rd, Rr (R264). -/
def execCp (d r : Reg) (s : State) : Host.Outcome State Fault Refusal :=
  let a := s.dev.reg d
  let b := s.dev.reg r
  s.sregWrite (subFlags s.dev.sreg a b (a - b))

/-- CPC Rd, Rr (R265). -/
def execCpc (d r : Reg) (s : State) : Host.Outcome State Fault Refusal :=
  let a := s.dev.reg d
  let b := s.dev.reg r
  s.sregWrite (subFlagsZ s.dev.sreg a b (a - b - s.carryIn))

/-- CPI Rd, K (R266). -/
def execCpi (d : Reg) (k : Byte) (s : State) : Host.Outcome State Fault Refusal :=
  let a := s.dev.reg d
  s.sregWrite (subFlags s.dev.sreg a k (a - k))

end Sys2Proof.Machine
end

