-- ==== Sys2Proof/Machine/BitTest.lean ====
section
/-! DEFINITION. The meanings of 43_bit_test.md (R360 to R369). -/

namespace Sys2Proof.Machine

/-- LSR Rd (R360). -/
def execLsr (d : Reg) (s : State) : Host.Outcome State Fault Refusal :=
  let a := s.dev.reg d
  s.aluWrite d (a >>> 1) (shiftFlags s.dev.sreg a (a >>> 1))

/-- ROR Rd (R361): the old C becomes bit 7. -/
def execRor (d : Reg) (s : State) : Host.Outcome State Fault Refusal :=
  let a := s.dev.reg d
  let r := BitVec.ofBool s.dev.carry ++ a.extractLsb' 1 7
  s.aluWrite d r (shiftFlags s.dev.sreg a r)

/-- ASR Rd (R362): bit 7 is kept. -/
def execAsr (d : Reg) (s : State) : Host.Outcome State Fault Refusal :=
  let a := s.dev.reg d
  let r := (a &&& 0x80) ||| (a >>> 1)
  s.aluWrite d r (shiftFlags s.dev.sreg a r)

/-- SWAP Rd (R363). -/
def execSwap (d : Reg) (s : State) : Host.Outcome State Fault Refusal :=
  let a := s.dev.reg d
  s.aluWrite d (a.extractLsb' 0 4 ++ a.extractLsb' 4 4) s.dev.sreg

/-- BSET s (R364): setting I arms `inhibit` (R414). -/
def execBset (f : Fin 8) (s : State) : Host.Outcome State Fault Refusal :=
  let dev := (s.dev.setSreg (setBit s.dev.sreg f.val true)).advance s.cfg 1 1
  s.retire (.ok { dev with inhibit := f.val == 7 })

/-- BCLR s (R365). -/
def execBclr (f : Fin 8) (s : State) : Host.Outcome State Fault Refusal :=
  s.sregWrite (setBit s.dev.sreg f.val false)

/-- SBI A, b (R366): `IoWrite(A + 0x20, 1 << b, 1 << b)`. -/
def execSbi (a : BitVec 5) (b : Fin 8) (s : State) : Host.Outcome State Fault Refusal :=
  s.retire ((s.dev.ioWrite (Device.ioAddr a) (Device.bitMask b) (Device.bitMask b)).map
    fun dev => dev.advance s.cfg 1 2)

/-- CBI A, b (R367): `IoWrite(A + 0x20, 0, 1 << b)`. -/
def execCbi (a : BitVec 5) (b : Fin 8) (s : State) : Host.Outcome State Fault Refusal :=
  s.retire ((s.dev.ioWrite (Device.ioAddr a) 0 (Device.bitMask b)).map fun dev => dev.advance s.cfg 1 2)

/-- BST Rd, b (R368). -/
def execBst (d : Reg) (b : Fin 8) (s : State) : Host.Outcome State Fault Refusal :=
  s.sregWrite (setBit s.dev.sreg 6 (bitOf (s.dev.reg d) b.val))

/-- BLD Rd, b (R369). -/
def execBld (d : Reg) (b : Fin 8) (s : State) : Host.Outcome State Fault Refusal :=
  s.aluWrite d (setBit (s.dev.reg d) b.val s.dev.tFlag) s.dev.sreg

end Sys2Proof.Machine
end

