-- ==== Sys2Proof/Machine/Branch.lean ====
section
/-! DEFINITION. The meanings of 41_branch.md's jumps, calls, returns, skips and branches (R250 to R272). -/

namespace Sys2Proof.Machine

/-- RJMP k (R252). -/
def execRjmp (k : BitVec 12) (s : State) : Host.Outcome State Fault Refusal :=
  s.retire (.ok (s.dev.jumpTo (s.dev.relTarget s.cfg k) 2))

/-- IJMP (R253). -/
def execIjmp (s : State) : Host.Outcome State Fault Refusal :=
  s.retire (.ok (s.dev.jumpTo ((s.dev.ptr .z).setWidth 17) 2))

/-- EIJMP (R254): the target is checked before any effect (R250). -/
def execEijmp (s : State) : Host.Outcome State Fault Refusal :=
  s.retire ((Device.checkTarget s.cfg s.dev.extTarget).map fun t => s.dev.jumpTo t 2)

/-- JMP k (R255): the target is checked before any effect (R250). -/
def execJmp (k : BitVec 22) (s : State) : Host.Outcome State Fault Refusal :=
  s.retire ((Device.checkTarget s.cfg k.toNat).map fun t => s.dev.jumpTo t 3)

/-- RCALL k (R256). -/
def execRcall (k : BitVec 12) (s : State) : Host.Outcome State Fault Refusal :=
  s.retire (s.dev.call s.cfg 1 (s.dev.relTarget s.cfg k) (s.cfg.wideCost 3))

/-- ICALL (R257). -/
def execIcall (s : State) : Host.Outcome State Fault Refusal :=
  s.retire (s.dev.call s.cfg 1 ((s.dev.ptr .z).setWidth 17) (s.cfg.wideCost 3))

/-- EICALL (R258): the target check comes before the stack check (R409). -/
def execEicall (s : State) : Host.Outcome State Fault Refusal :=
  s.retire (match Device.checkTarget s.cfg s.dev.extTarget with
    | .ok t => s.dev.call s.cfg 1 t (s.cfg.wideCost 3)
    | .error e => .error e)

/-- CALL k (R259): the target check comes before the stack check (R409). -/
def execCall (k : BitVec 22) (s : State) : Host.Outcome State Fault Refusal :=
  s.retire (match Device.checkTarget s.cfg k.toNat with
    | .ok t => s.dev.call s.cfg 2 t (s.cfg.wideCost 4)
    | .error e => .error e)

/-- RET (R260). -/
def execRet (s : State) : Host.Outcome State Fault Refusal := s.retire (s.dev.returnTo s.cfg)

/-- RETI (R261). -/
def execReti (s : State) : Host.Outcome State Fault Refusal := s.retire (s.dev.returnFromInterrupt s.cfg)

/-- CPSE Rd, Rr (R263). -/
def execCpse (d r : Reg) (s : State) : Host.Outcome State Fault Refusal :=
  s.retire (s.dev.skipIf s.cfg (s.dev.reg d == s.dev.reg r))

/-- SBRC Rr, b (R267). -/
def execSbrc (r : Reg) (b : Fin 8) (s : State) : Host.Outcome State Fault Refusal :=
  s.retire (s.dev.skipIf s.cfg (!bitOf (s.dev.reg r) b.val))

/-- SBRS Rr, b (R268). -/
def execSbrs (r : Reg) (b : Fin 8) (s : State) : Host.Outcome State Fault Refusal :=
  s.retire (s.dev.skipIf s.cfg (bitOf (s.dev.reg r) b.val))

/-- A skip on an I/O bit: the read, then the skip on `want` (R269, R270); the read's fault comes first (R409). -/
def Device.skipOnIo (c : Config) (d : Device) (a : BitVec 5) (b : Fin 8) (want : Bool) : Except FaultDetail Device :=
  match d.ioRead (Device.ioAddr a) with
  | .ok (v, d') => d'.skipIf c (bitOf v b.val == want)
  | .error e => .error e

/-- SBIC A, b (R269). -/
def execSbic (a : BitVec 5) (b : Fin 8) (s : State) : Host.Outcome State Fault Refusal :=
  s.retire (s.dev.skipOnIo s.cfg a b false)

/-- SBIS A, b (R270). -/
def execSbis (a : BitVec 5) (b : Fin 8) (s : State) : Host.Outcome State Fault Refusal :=
  s.retire (s.dev.skipOnIo s.cfg a b true)

/-- A branch by k if `taken`: two cycles if taken, one if not (R271, R272). -/
def State.branchIf (s : State) (taken : Bool) (k : BitVec 7) : Host.Outcome State Fault Refusal :=
  s.retire (.ok (if taken then s.dev.jumpTo (s.dev.relTarget s.cfg k) 2 else s.dev.advance s.cfg 1 1))

/-- BRBS s, k (R271). -/
def execBrbs (f : Fin 8) (k : BitVec 7) (s : State) : Host.Outcome State Fault Refusal :=
  s.branchIf (bitOf s.dev.sreg f.val) k

/-- BRBC s, k (R272). -/
def execBrbc (f : Fin 8) (k : BitVec 7) (s : State) : Host.Outcome State Fault Refusal :=
  s.branchIf (!bitOf s.dev.sreg f.val) k

end Sys2Proof.Machine
end

