-- ==== Sys2Proof/Machine/McuControl.lean ====
section
/-! DEFINITION. The meanings of 44_mcu_control.md (R390 to R393). -/

namespace Sys2Proof.Machine

/-- What a NOP does (R390): pc and T advance by one. -/
def State.idleOne (s : State) : Host.Outcome State Fault Refusal := s.retire (.ok (s.dev.advance s.cfg 1 1))

/-- NOP (R390). -/
def execNop (s : State) : Host.Outcome State Fault Refusal := s.idleOne

/-- `SMCR.SE` and `SMCR.SM` (R42). -/
def Device.sleepEnable (d : Device) : Bool := bitOf d.ctl.smcr 0
def Device.sleepMode (d : Device) : BitVec 3 := d.ctl.smcr.extractLsb' 1 3

/-- SLEEP (R391). -/
def execSleep (s : State) : Host.Outcome State Fault Refusal :=
  s.retire (
    if s.dev.sleepEnable = false then .ok (s.dev.advance s.cfg 1 1)
    else if s.dev.sleepMode = 0 then .ok { s.dev.advance s.cfg 1 1 with mode := .sleeping }
    else .error (.unmodelled (.sleepMode s.dev.sleepMode)))

/-- WDR (R392): as NOP. -/
def execWdr (s : State) : Host.Outcome State Fault Refusal := s.idleOne

/-- BREAK (R393): as NOP. -/
def execBreak (s : State) : Host.Outcome State Fault Refusal := s.idleOne

end Sys2Proof.Machine
end

