-- ==== Sys2Proof/Machine/Multiply.lean ====
section
/-! DEFINITION. The meanings of the multiplies (40_arith_logic.md R220 to R225). Each converts its operands to
integers, multiplies exactly, and narrows the product to 16 bits. -/

namespace Sys2Proof.Machine

/-- The 16-bit product of two integers (R221: `mod 65536`). -/
def product (a b : Int) : Word := BitVec.ofInt 16 (a * b)

/-- An 8-bit value as an unsigned integer. -/
def unsigned8 (v : Byte) : Int := v.toNat

/-- `signed8(v)` (R12). -/
def signed8 (v : Byte) : Int := v.toInt

/-- `q` goes to R1:R0 and the flags come from the product `p` and from `q`; two cycles (R220 to R225). -/
def State.mulWrite (s : State) (p q : Word) : Host.Outcome State Fault Refusal :=
  s.retire (.ok (((s.dev.setPair 0 q).setSreg (mulFlags s.dev.sreg p q)).advance s.cfg 1 2))

/-- MUL Rd, Rr (R220). -/
def execMul (d r : Reg) (s : State) : Host.Outcome State Fault Refusal :=
  let p := product (unsigned8 (s.dev.reg d)) (unsigned8 (s.dev.reg r))
  s.mulWrite p p

/-- MULS Rd, Rr (R221). -/
def execMuls (d r : Reg) (s : State) : Host.Outcome State Fault Refusal :=
  let p := product (signed8 (s.dev.reg d)) (signed8 (s.dev.reg r))
  s.mulWrite p p

/-- MULSU Rd, Rr (R222). -/
def execMulsu (d r : Reg) (s : State) : Host.Outcome State Fault Refusal :=
  let p := product (signed8 (s.dev.reg d)) (unsigned8 (s.dev.reg r))
  s.mulWrite p p

/-- FMUL Rd, Rr (R223). -/
def execFmul (d r : Reg) (s : State) : Host.Outcome State Fault Refusal :=
  let p := product (unsigned8 (s.dev.reg d)) (unsigned8 (s.dev.reg r))
  s.mulWrite p (p <<< 1)

/-- FMULS Rd, Rr (R224). -/
def execFmuls (d r : Reg) (s : State) : Host.Outcome State Fault Refusal :=
  let p := product (signed8 (s.dev.reg d)) (signed8 (s.dev.reg r))
  s.mulWrite p (p <<< 1)

/-- FMULSU Rd, Rr (R225). -/
def execFmulsu (d r : Reg) (s : State) : Host.Outcome State Fault Refusal :=
  let p := product (signed8 (s.dev.reg d)) (unsigned8 (s.dev.reg r))
  s.mulWrite p (p <<< 1)

end Sys2Proof.Machine
end

