-- ==== Sys2Proof/Machine/Transfer.lean ====
section
/-! DEFINITION. The meanings of 42_data_transfer.md (R300 to R341). -/

namespace Sys2Proof.Machine

/-! ### Moves (R301 to R303) -/

/-- MOV Rd, Rr (R301). -/
def execMov (d r : Reg) (s : State) : Host.Outcome State Fault Refusal :=
  s.retire (.ok ((s.dev.setReg d (s.dev.reg r)).advance s.cfg 1 1))

/-- MOVW Rd+1:Rd, Rr+1:Rr (R302). -/
def execMovw (d r : Reg) (s : State) : Host.Outcome State Fault Refusal :=
  s.retire (.ok ((s.dev.setPair d (s.dev.pair r)).advance s.cfg 1 1))

/-- LDI Rd, K (R303). -/
def execLdi (d : Reg) (k : Byte) (s : State) : Host.Outcome State Fault Refusal :=
  s.retire (.ok ((s.dev.setReg d k).advance s.cfg 1 1))

/-! ### Loads (R304 to R313) -/

/-- LDS Rd, k (R304). -/
def execLds (d : Reg) (k : Word) (s : State) : Host.Outcome State Fault Refusal :=
  s.retire (s.dev.loadFrom s.cfg d k 2)

/-- LD Rd, X (R305). -/
def execLdX (d : Reg) (s : State) : Host.Outcome State Fault Refusal := s.retire (s.dev.load s.cfg d .x .plain)

/-- LD Rd, X+ (R306). -/
def execLdXInc (d : Reg) (s : State) : Host.Outcome State Fault Refusal := s.retire (s.dev.load s.cfg d .x .postInc)

/-- LD Rd, -X (R307). -/
def execLdDecX (d : Reg) (s : State) : Host.Outcome State Fault Refusal := s.retire (s.dev.load s.cfg d .x .preDec)

/-- LD Rd, Y+ (R308). -/
def execLdYInc (d : Reg) (s : State) : Host.Outcome State Fault Refusal := s.retire (s.dev.load s.cfg d .y .postInc)

/-- LD Rd, -Y (R309). -/
def execLdDecY (d : Reg) (s : State) : Host.Outcome State Fault Refusal := s.retire (s.dev.load s.cfg d .y .preDec)

/-- LD Rd, Y (R310). -/
def execLdY (d : Reg) (s : State) : Host.Outcome State Fault Refusal := s.retire (s.dev.load s.cfg d .y .plain)

/-- LDD Rd, Y+q (R310). -/
def execLddY (d : Reg) (q : BitVec 6) (s : State) : Host.Outcome State Fault Refusal :=
  s.retire (s.dev.load s.cfg d .y (.disp q))

/-- LD Rd, Z+ (R311). -/
def execLdZInc (d : Reg) (s : State) : Host.Outcome State Fault Refusal := s.retire (s.dev.load s.cfg d .z .postInc)

/-- LD Rd, -Z (R312). -/
def execLdDecZ (d : Reg) (s : State) : Host.Outcome State Fault Refusal := s.retire (s.dev.load s.cfg d .z .preDec)

/-- LD Rd, Z (R313). -/
def execLdZ (d : Reg) (s : State) : Host.Outcome State Fault Refusal := s.retire (s.dev.load s.cfg d .z .plain)

/-- LDD Rd, Z+q (R313). -/
def execLddZ (d : Reg) (q : BitVec 6) (s : State) : Host.Outcome State Fault Refusal :=
  s.retire (s.dev.load s.cfg d .z (.disp q))

/-! ### Stores (R314 to R323) -/

/-- STS k, Rr (R314). -/
def execSts (k : Word) (r : Reg) (s : State) : Host.Outcome State Fault Refusal :=
  s.retire (s.dev.storeTo s.cfg r k 2)

/-- ST X, Rr (R315). -/
def execStX (r : Reg) (s : State) : Host.Outcome State Fault Refusal := s.retire (s.dev.store s.cfg r .x .plain)

/-- ST X+, Rr (R316). -/
def execStXInc (r : Reg) (s : State) : Host.Outcome State Fault Refusal := s.retire (s.dev.store s.cfg r .x .postInc)

/-- ST -X, Rr (R317). -/
def execStDecX (r : Reg) (s : State) : Host.Outcome State Fault Refusal := s.retire (s.dev.store s.cfg r .x .preDec)

/-- ST Y+, Rr (R318). -/
def execStYInc (r : Reg) (s : State) : Host.Outcome State Fault Refusal := s.retire (s.dev.store s.cfg r .y .postInc)

/-- ST -Y, Rr (R319). -/
def execStDecY (r : Reg) (s : State) : Host.Outcome State Fault Refusal := s.retire (s.dev.store s.cfg r .y .preDec)

/-- ST Y, Rr (R320). -/
def execStY (r : Reg) (s : State) : Host.Outcome State Fault Refusal := s.retire (s.dev.store s.cfg r .y .plain)

/-- STD Y+q, Rr (R320). -/
def execStdY (q : BitVec 6) (r : Reg) (s : State) : Host.Outcome State Fault Refusal :=
  s.retire (s.dev.store s.cfg r .y (.disp q))

/-- ST Z+, Rr (R321). -/
def execStZInc (r : Reg) (s : State) : Host.Outcome State Fault Refusal := s.retire (s.dev.store s.cfg r .z .postInc)

/-- ST -Z, Rr (R322). -/
def execStDecZ (r : Reg) (s : State) : Host.Outcome State Fault Refusal := s.retire (s.dev.store s.cfg r .z .preDec)

/-- ST Z, Rr (R323). -/
def execStZ (r : Reg) (s : State) : Host.Outcome State Fault Refusal := s.retire (s.dev.store s.cfg r .z .plain)

/-- STD Z+q, Rr (R323). -/
def execStdZ (q : BitVec 6) (r : Reg) (s : State) : Host.Outcome State Fault Refusal :=
  s.retire (s.dev.store s.cfg r .z (.disp q))

/-! ### Program memory (R330 to R337) -/

/-- LPM (R330). -/
def execLpm (s : State) : Host.Outcome State Fault Refusal :=
  s.retire (s.dev.loadProg s.cfg 0 (s.dev.ptr .z).toNat id)

/-- LPM Rd, Z (R331). -/
def execLpmZ (d : Reg) (s : State) : Host.Outcome State Fault Refusal :=
  s.retire (s.dev.loadProg s.cfg d (s.dev.ptr .z).toNat id)

/-- LPM Rd, Z+ (R332). -/
def execLpmZInc (d : Reg) (s : State) : Host.Outcome State Fault Refusal :=
  s.retire (s.dev.loadProg s.cfg d (s.dev.ptr .z).toNat fun dev => dev.setPtr .z (s.dev.ptr .z + 1))

/-- ELPM (R334). -/
def execElpm (s : State) : Host.Outcome State Fault Refusal :=
  s.retire (s.dev.loadProg s.cfg 0 s.dev.extAddr.toNat id)

/-- ELPM Rd, Z (R335). -/
def execElpmZ (d : Reg) (s : State) : Host.Outcome State Fault Refusal :=
  s.retire (s.dev.loadProg s.cfg d s.dev.extAddr.toNat id)

/-- ELPM Rd, Z+ (R336). -/
def execElpmZInc (d : Reg) (s : State) : Host.Outcome State Fault Refusal :=
  s.retire (s.dev.loadProg s.cfg d s.dev.extAddr.toNat fun dev => dev.setExtAddr (s.dev.extAddr + 1))

/-- SPM (R337, R86): always BusFault(write_prog, {RAMPZ[1:0], Z}) (log 13). -/
def execSpm (s : State) : Host.Outcome State Fault Refusal :=
  s.retire (.error (.bus .writeProg s.dev.extAddr.toNat))

/-! ### I/O and the stack (R338 to R341) -/

/-- IN Rd, A (R338). -/
def execIn (d : Reg) (a : BitVec 6) (s : State) : Host.Outcome State Fault Refusal :=
  s.retire ((s.dev.ioRead (Device.ioAddr a)).map fun (v, dev) => (dev.setReg d v).advance s.cfg 1 1)

/-- OUT A, Rr (R339). -/
def execOut (a : BitVec 6) (r : Reg) (s : State) : Host.Outcome State Fault Refusal :=
  s.retire ((s.dev.ioWrite (Device.ioAddr a) (s.dev.reg r) 0xFF).map fun dev => dev.advance s.cfg 1 1)

/-- PUSH Rr (R340). -/
def execPush (r : Reg) (s : State) : Host.Outcome State Fault Refusal :=
  s.retire ((s.dev.push8 (s.dev.reg r)).map fun dev => dev.advance s.cfg 1 2)

/-- POP Rd (R341). -/
def execPop (d : Reg) (s : State) : Host.Outcome State Fault Refusal :=
  s.retire (s.dev.pop8.map fun (v, dev) => (dev.setReg d v).advance s.cfg 1 2)

end Sys2Proof.Machine
end

