-- ==== Sys2Proof/Machine/Dispatch.lean ====
section
/-! DEFINITION. The dispatch: one arm for each instruction, in the order of spec/opcode_table.json. `exec i s` is the
whole effect of instruction i of the Device under study at its boundary (R102, R530 step 1). -/

namespace Sys2Proof.Machine

def exec (i : Instr) (s : State) : Host.Outcome State Fault Refusal :=
  match i with
  | .add d r => Sys2Proof.Machine.execAdd d r s
  | .adc d r => Sys2Proof.Machine.execAdc d r s
  | .adiw d k => Sys2Proof.Machine.execAdiw d k s
  | .sub d r => Sys2Proof.Machine.execSub d r s
  | .subi d k => Sys2Proof.Machine.execSubi d k s
  | .sbc d r => Sys2Proof.Machine.execSbc d r s
  | .sbci d k => Sys2Proof.Machine.execSbci d k s
  | .sbiw d k => Sys2Proof.Machine.execSbiw d k s
  | .and d r => Sys2Proof.Machine.execAnd d r s
  | .andi d k => Sys2Proof.Machine.execAndi d k s
  | .or d r => Sys2Proof.Machine.execOr d r s
  | .ori d k => Sys2Proof.Machine.execOri d k s
  | .eor d r => Sys2Proof.Machine.execEor d r s
  | .com d => Sys2Proof.Machine.execCom d s
  | .neg d => Sys2Proof.Machine.execNeg d s
  | .inc d => Sys2Proof.Machine.execInc d s
  | .dec d => Sys2Proof.Machine.execDec d s
  | .mul d r => Sys2Proof.Machine.execMul d r s
  | .muls d r => Sys2Proof.Machine.execMuls d r s
  | .mulsu d r => Sys2Proof.Machine.execMulsu d r s
  | .fmul d r => Sys2Proof.Machine.execFmul d r s
  | .fmuls d r => Sys2Proof.Machine.execFmuls d r s
  | .fmulsu d r => Sys2Proof.Machine.execFmulsu d r s
  | .rjmp k => Sys2Proof.Machine.execRjmp k s
  | .ijmp => Sys2Proof.Machine.execIjmp s
  | .eijmp => Sys2Proof.Machine.execEijmp s
  | .jmp k => Sys2Proof.Machine.execJmp k s
  | .rcall k => Sys2Proof.Machine.execRcall k s
  | .icall => Sys2Proof.Machine.execIcall s
  | .eicall => Sys2Proof.Machine.execEicall s
  | .call k => Sys2Proof.Machine.execCall k s
  | .ret => Sys2Proof.Machine.execRet s
  | .reti => Sys2Proof.Machine.execReti s
  | .cpse d r => Sys2Proof.Machine.execCpse d r s
  | .cp d r => Sys2Proof.Machine.execCp d r s
  | .cpc d r => Sys2Proof.Machine.execCpc d r s
  | .cpi d k => Sys2Proof.Machine.execCpi d k s
  | .sbrc r b => Sys2Proof.Machine.execSbrc r b s
  | .sbrs r b => Sys2Proof.Machine.execSbrs r b s
  | .sbic a b => Sys2Proof.Machine.execSbic a b s
  | .sbis a b => Sys2Proof.Machine.execSbis a b s
  | .brbs f k => Sys2Proof.Machine.execBrbs f k s
  | .brbc f k => Sys2Proof.Machine.execBrbc f k s
  | .mov d r => Sys2Proof.Machine.execMov d r s
  | .movw d r => Sys2Proof.Machine.execMovw d r s
  | .ldi d k => Sys2Proof.Machine.execLdi d k s
  | .lds d k => Sys2Proof.Machine.execLds d k s
  | .ldX d => Sys2Proof.Machine.execLdX d s
  | .ldXInc d => Sys2Proof.Machine.execLdXInc d s
  | .ldDecX d => Sys2Proof.Machine.execLdDecX d s
  | .ldYInc d => Sys2Proof.Machine.execLdYInc d s
  | .ldDecY d => Sys2Proof.Machine.execLdDecY d s
  | .ldY d => Sys2Proof.Machine.execLdY d s
  | .lddY d q => Sys2Proof.Machine.execLddY d q s
  | .ldZInc d => Sys2Proof.Machine.execLdZInc d s
  | .ldDecZ d => Sys2Proof.Machine.execLdDecZ d s
  | .ldZ d => Sys2Proof.Machine.execLdZ d s
  | .lddZ d q => Sys2Proof.Machine.execLddZ d q s
  | .sts k r => Sys2Proof.Machine.execSts k r s
  | .stX r => Sys2Proof.Machine.execStX r s
  | .stXInc r => Sys2Proof.Machine.execStXInc r s
  | .stDecX r => Sys2Proof.Machine.execStDecX r s
  | .stYInc r => Sys2Proof.Machine.execStYInc r s
  | .stDecY r => Sys2Proof.Machine.execStDecY r s
  | .stY r => Sys2Proof.Machine.execStY r s
  | .stdY q r => Sys2Proof.Machine.execStdY q r s
  | .stZInc r => Sys2Proof.Machine.execStZInc r s
  | .stDecZ r => Sys2Proof.Machine.execStDecZ r s
  | .stZ r => Sys2Proof.Machine.execStZ r s
  | .stdZ q r => Sys2Proof.Machine.execStdZ q r s
  | .lpm => Sys2Proof.Machine.execLpm s
  | .lpmZ d => Sys2Proof.Machine.execLpmZ d s
  | .lpmZInc d => Sys2Proof.Machine.execLpmZInc d s
  | .elpm => Sys2Proof.Machine.execElpm s
  | .elpmZ d => Sys2Proof.Machine.execElpmZ d s
  | .elpmZInc d => Sys2Proof.Machine.execElpmZInc d s
  | .spm => Sys2Proof.Machine.execSpm s
  | .ioIn d a => Sys2Proof.Machine.execIn d a s
  | .ioOut a r => Sys2Proof.Machine.execOut a r s
  | .push r => Sys2Proof.Machine.execPush r s
  | .pop d => Sys2Proof.Machine.execPop d s
  | .lsr d => Sys2Proof.Machine.execLsr d s
  | .ror d => Sys2Proof.Machine.execRor d s
  | .asr d => Sys2Proof.Machine.execAsr d s
  | .swap d => Sys2Proof.Machine.execSwap d s
  | .bset f => Sys2Proof.Machine.execBset f s
  | .bclr f => Sys2Proof.Machine.execBclr f s
  | .sbi a b => Sys2Proof.Machine.execSbi a b s
  | .cbi a b => Sys2Proof.Machine.execCbi a b s
  | .bst d b => Sys2Proof.Machine.execBst d b s
  | .bld d b => Sys2Proof.Machine.execBld d b s
  | .nop => Sys2Proof.Machine.execNop s
  | .sleep => Sys2Proof.Machine.execSleep s
  | .wdr => Sys2Proof.Machine.execWdr s
  | .brk => Sys2Proof.Machine.execBreak s

end Sys2Proof.Machine
end

