-- ==== Sys2Proof/Machine/Cycle.lean ====
section
/-! DEFINITION. One cycle of the run (61_devices.md R530): the boundary of every Device (60_exceptions.md R417, R424),
the drives, the levels, the ticks and the trace. -/

namespace Sys2Proof.Machine

/-! ### Step 1: a boundary (R417, R424, R530) -/

namespace Device

/-- The vector a running Device takes at this boundary (R417). -/
def interrupt (d : Device) : Option Vec := if !d.inhibit && d.iFlag then d.eligible else none

/-- The vector that wakes a sleeping Device (R424); `inhibit` plays no part. -/
def wakeup (d : Device) : Option Vec := if d.iFlag then d.eligible else none

/-- A sleeping Device idles one cycle (R424). -/
def idle (d : Device) : Device := { d with time := d.time + 1 }

/-- After an instruction's effect or a tick the `fired` latches follow their flags (R413); a halted Device is frozen
(R400; log 14). -/
def settle (d : Device) : Device := if d.isHalted then d else d.refreshFired

end Device

namespace State

/-- The instruction at pc, or the fault of fetching or decoding it (R409 steps 1 to 3). -/
def runInstr (s : State) : Host.Outcome State Fault Refusal :=
  match s.dev.fetchInstr s.cfg with
  | .ok i => exec i s
  | .error e => s.retire (.error e)

/-- The step a Device starts when its T has come (R417, R424). -/
def act (s : State) : Host.Outcome State Fault Refusal :=
  match s.dev.mode with
  | .halted _ => .next s
  | .sleeping =>
    match s.dev.wakeup with
    | some v => s.takeInterrupt v (s.cfg.wideCost 4)
    | none => .next { s with dev := s.dev.idle }
  | .running =>
    match s.dev.interrupt with
    | some v => s.takeInterrupt v 0
    | none => s.runInstr

/-- An outcome with the `fired` latches of the Device under study updated. -/
def settled : Host.Outcome State Fault Refusal → Host.Outcome State Fault Refusal
  | .next s => .next { s with dev := s.dev.settle }
  | .fault r => .fault r
  | .refused r => .refused r

/-- The boundary of the Device under study in this cycle: it acts when its T has come, and is in the middle of an
instruction otherwise (R530 step 1; log 15). -/
def boundary (s : State) : Host.Outcome State Fault Refusal :=
  if s.dev.time = s.cycle then settled s.act else .next s

/-- The boundary of a sibling: the same step, with the sibling as the Device under study. Nothing it does reaches
another Device in this step. -/
def siblingBoundary (s : State) (d : Device) : Device :=
  match boundary { s with dev := d } with
  | .next t => t.dev
  | .fault _ | .refused _ => d

end State

/-! ### Steps 2 to 5 (R530) -/

namespace Device

/-- What the receiver samples (R484). -/
def rxSample (d : Device) (level : Level) : Bool := level.bit (bitOf (Config.deviceDraw d.name d.draws) 0)

/-- The peripheral step of a Device in cycle k (R530 step 4), with the levels of its pins: Timer0, the transmitter,
the receiver, the synchronizers, then the `fired` latches. A halted Device does not tick (R400). -/
def tick (d : Device) (k : Nat) (level : PortName → Fin 8 → Level) : Device :=
  if d.isHalted then d
  else
    let d1 := { d with
      timer := d.timer.advance k
      usart := d.usart.txTick.rxTick (d.rxSample (level .e 0))
      draws := if d.usart.rxen && level .e 0 = Level.z then d.draws + 1 else d.draws }
    (d1.syncPins level).refreshFired

end Device

namespace State

/-- The peripheral step of Devices i, i + 1, ... -/
def tickDevices (k : Nat) (level : Endpoint → Level) (i : Nat) : List Device → List Device
  | [] => []
  | d :: ds => d.tick k (fun p n => level (.pin i p n)) :: tickDevices k level (i + 1) ds

/-- The tick of terminals i, i + 1, ... (R547) -/
def tickTerminals (k : Nat) (level : Endpoint → Level) (i : Nat) : List Terminal → List Terminal
  | [] => []
  | t :: ts => t.tick k (level (.termRx i)) :: tickTerminals k level (i + 1) ts

/-- Step 4 (R530). -/
def tickAll (s : State) (level : Endpoint → Level) : State :=
  { s with
    dev := s.dev.tick s.cycle (fun p n => level (.pin 0 p n))
    siblings := tickDevices s.cycle level 1 s.siblings
    terminals := tickTerminals s.cycle level 0 s.terminals }

/-- The rest of the cycle after the boundary of the Device under study: the siblings' boundaries, then steps 2 to 5,
and the cycle is over. -/
def finishCycle (s : State) : State :=
  let s1 := { s with siblings := s.siblings.map s.siblingBoundary }
  let s2 := s1.recordDrives
  let s3 := (s2.tickAll s2.level).recordTrace s2.level
  { s3 with cycle := s3.cycle + 1 }

/-- Every cycle before `STOP_CYCLE` has been processed (R542). -/
def isOver (s : State) : Bool :=
  match s.stopCycle with
  | some stop => stop ≤ s.cycle
  | none => false

/-- One cycle of the run (R530, log 2); none at or after `STOP_CYCLE` (R542, log 11). -/
def runCycle (s : State) : Host.Outcome State Fault Refusal :=
  if s.isOver then .fault .runOver
  else
    match s.boundary with
    | .next t => .next t.finishCycle
    | .fault r => .fault r
    | .refused r => .refused r

/-! ### Placing an instruction for the next step (log 5) -/

/-- The four bytes of an instruction of `nbits` bits w, as program memory holds them (R100): little-endian words, the
first at the lower address, every bit above `nbits` 0. -/
def wordBytes (nbits w : Nat) : List Byte :=
  let v : BitVec 32 := BitVec.ofNat 32 (w % 2 ^ nbits)
  [v.extractLsb' 0 8, v.extractLsb' 8 8, v.extractLsb' 16 8, v.extractLsb' 24 8]

/-- Program memory with that instruction at pc. -/
def placeWord (s : State) (nbits w : Nat) : Memory :=
  let bytes := wordBytes nbits w
  let m := Memory.writeBytes .program s.dev.prog (2 * s.dev.pc.toNat) (bytes.take 2)
  Memory.writeBytes .program m (2 * (s.cfg.wrapPc (s.dev.pc + 1)).toNat) (bytes.drop 2)

/-- The Device under study about to execute the instruction at pc in this very cycle: running, at its boundary, with
no vector due. In a state such as reset, where that is so already, nothing changes. -/
def readyDevice (s : State) : Device :=
  let d := { s.dev with mode := .running, time := s.cycle }
  if d.interrupt.isSome then { d with inhibit := true } else d

/-- The run as it is when the next step executes the instruction placed at pc. -/
def readyFor (s : State) (nbits w : Nat) : State :=
  { s with
    dev := { s.readyDevice with prog := s.placeWord nbits w }
    stopCycle := if s.isOver then none else s.stopCycle }

end State

end Sys2Proof.Machine
end

