-- ==== Sys2Proof/Machine/Step.lean ====
section
/-! DEFINITION. One step of the machine, and the placing of an instruction where the next step fetches. -/

namespace Sys2Proof.Machine

/-- One step is one cycle of the whole run: `State.runCycle` (61_devices.md R530, R542; log 2). -/
def step (s : State) : Host.Outcome State Fault Refusal := s.runCycle

/-- The state with the instruction whose `nbits` bits are `w` where the next step fetches: `State.readyFor` (log 5). -/
def State.withFetchWord (s : State) (nbits w : Nat) : State := s.readyFor nbits w

end Sys2Proof.Machine
end

