-- ==== Sys2Proof/Safety.lean ====
section
/-! DEFINITION. The words the statements are made of: how an instruction ends, what each instruction may write, and
the invariants of a run. Nothing of the machine is defined here. -/

namespace Sys2Proof.Machine

/-! ### How an instruction ends -/

/-- `(pc + n) mod M` (R37, R250). -/
def nextPc (c : Config) (pc : ProgAddr) (n : Nat) : ProgAddr := BitVec.ofNat 17 ((pc.toNat + n) % c.pcModulus)

/-- A Device after an instruction of n words and `cycles` cycles that transfers no control: pc past it, T moved on,
`inhibit` clear; every other field as it is (R37, R417, R530). -/
def Device.past (d : Device) (c : Config) (n cycles : Nat) : Device :=
  { d with pc := nextPc c d.pc n, time := d.time + cycles, inhibit := false }

/-- A Device after an instruction that transferred control to word address `target`. -/
def Device.jumped (d : Device) (target cycles : Nat) : Device :=
  { d with pc := BitVec.ofNat 17 target, time := d.time + cycles, inhibit := false }

/-- The instruction completes: `exec` answers a next state, in which the Device under study is `d` and nothing else
of the run has changed. -/
def Completes (i : Instr) (s : State) (d : Device) : Prop := exec i s = .next { s with dev := d }

/-- The outcome `o` is that the Device under study is as it was in `s`, halted, with the record of R401 for the fault
`e`; nothing else of the run has changed (R400). -/
def HaltsAt (s : State) (o : Host.Outcome State Fault Refusal) (e : FaultDetail) : Prop :=
  o = .next { s with dev := { s.dev with mode := .halted ⟨s.dev.name, s.dev.pc, s.dev.time, e⟩ } }

/-- The instruction raises the fault `e`. -/
def Halts (i : Instr) (s : State) (e : FaultDetail) : Prop := HaltsAt s (exec i s) e

/-- `new` is SREG after an instruction that writes H, V, N, Z, C as given and S = N ⊕ V; I and T as in `old` (R34). -/
def SregIs (old new : Byte) (h v n z c : Bool) : Prop :=
  bitOf new 0 = c ∧ bitOf new 1 = z ∧ bitOf new 2 = n ∧ bitOf new 3 = v ∧ bitOf new 4 = (n ^^ v) ∧ bitOf new 5 = h ∧
  bitOf new 6 = bitOf old 6 ∧ bitOf new 7 = bitOf old 7

/-- A truth value as a flag. -/
abbrev flag (p : Prop) [Decidable p] : Bool := decide p

/-! ### What an instruction accesses and writes -/

/-- The data access of an instruction. -/
inductive Access where
  | none
  | load (a : Word)
  | store (a : Word)
  /-- An I/O instruction on data address a. -/
  | io (a : Nat)
  /-- n bytes pushed. -/
  | push (n : Nat)
  /-- n bytes popped. -/
  | pop (n : Nat)
deriving DecidableEq, Repr

/-- The access of an instruction in a state, with the address its meaning computes (R87, R300). -/
def Instr.access (c : Config) (d : Device) : Instr → Access
  | .lds _ k => .load k
  | .ldX _ => .load (d.ptrAddr .x .plain)
  | .ldXInc _ => .load (d.ptrAddr .x .postInc)
  | .ldDecX _ => .load (d.ptrAddr .x .preDec)
  | .ldYInc _ => .load (d.ptrAddr .y .postInc)
  | .ldDecY _ => .load (d.ptrAddr .y .preDec)
  | .ldY _ => .load (d.ptrAddr .y .plain)
  | .lddY _ q => .load (d.ptrAddr .y (.disp q))
  | .ldZInc _ => .load (d.ptrAddr .z .postInc)
  | .ldDecZ _ => .load (d.ptrAddr .z .preDec)
  | .ldZ _ => .load (d.ptrAddr .z .plain)
  | .lddZ _ q => .load (d.ptrAddr .z (.disp q))
  | .sts k _ => .store k
  | .stX _ => .store (d.ptrAddr .x .plain)
  | .stXInc _ => .store (d.ptrAddr .x .postInc)
  | .stDecX _ => .store (d.ptrAddr .x .preDec)
  | .stYInc _ => .store (d.ptrAddr .y .postInc)
  | .stDecY _ => .store (d.ptrAddr .y .preDec)
  | .stY _ => .store (d.ptrAddr .y .plain)
  | .stdY q _ => .store (d.ptrAddr .y (.disp q))
  | .stZInc _ => .store (d.ptrAddr .z .postInc)
  | .stDecZ _ => .store (d.ptrAddr .z .preDec)
  | .stZ _ => .store (d.ptrAddr .z .plain)
  | .stdZ q _ => .store (d.ptrAddr .z (.disp q))
  | .ioIn _ a | .ioOut a _ => .io (Device.ioAddr a)
  | .sbic a _ | .sbis a _ | .sbi a _ | .cbi a _ => .io (Device.ioAddr a)
  | .push _ => .push 1
  | .pop _ => .pop 1
  | .rcall _ | .icall | .eicall | .call _ => .push c.pcBits.raBytes
  | .ret | .reti => .pop c.pcBits.raBytes
  | .add _ _ | .adc _ _ | .adiw _ _ | .sub _ _ | .subi _ _ | .sbc _ _ | .sbci _ _ | .sbiw _ _ | .and _ _
  | .andi _ _ | .or _ _ | .ori _ _ | .eor _ _ | .com _ | .neg _ | .inc _ | .dec _ | .mul _ _ | .muls _ _
  | .mulsu _ _ | .fmul _ _ | .fmuls _ _ | .fmulsu _ _ | .rjmp _ | .ijmp | .eijmp | .jmp _ | .cpse _ _ | .cp _ _
  | .cpc _ _ | .cpi _ _ | .sbrc _ _ | .sbrs _ _ | .brbs _ _ | .brbc _ _ | .mov _ _ | .movw _ _ | .ldi _ _ | .lpm
  | .lpmZ _ | .lpmZInc _ | .elpm | .elpmZ _ | .elpmZInc _ | .spm | .lsr _ | .ror _ | .asr _ | .swap _ | .bset _
  | .bclr _ | .bst _ _ | .bld _ _ | .nop | .sleep | .wdr | .brk => .none

/-- The data addresses an instruction stores to: that of its data store, or those of the bytes it pushes, from SP
downwards. -/
def Access.stored (sp : Word) : Access → List Nat
  | .store a => [a.toNat]
  | .push n => (List.range n).map fun i => (sp - BitVec.ofNat 16 i).toNat
  | .none | .load _ | .io _ | .pop _ => []

/-- The register of the I/O window an access reaches, if any (R91, R93). -/
def Access.target : Access → Option IoReg
  | .load a | .store a => ioReg a.toNat
  | .io a => ioReg a
  | .none | .push _ | .pop _ => Option.none

/-- What a register of the I/O window belongs to (R60). -/
inductive IoUnit where
  | core
  | timer
  | usart
  | port (p : PortName)
deriving DecidableEq, Repr

def IoReg.unit : IoReg → IoUnit
  | .pin p | .ddr p | .port p => .port p
  | .tifr0 | .tccr0a | .tccr0b | .tcnt0 | .ocr0a | .ocr0b | .timsk0 => .timer
  | .ucsr0a | .ucsr0b | .ucsr0c | .ubrr0l | .ubrr0h | .udr0 => .usart
  | .gpior0 | .gpior1 | .gpior2 | .smcr | .mcucr | .rampz | .eind | .spl | .sph | .sreg => .core

/-- The pointer pair an instruction updates, if it does (R300, R332, R336). -/
def Instr.movedPtr : Instr → Option Ptr
  | .ldXInc _ | .ldDecX _ | .stXInc _ | .stDecX _ => some .x
  | .ldYInc _ | .ldDecY _ | .stYInc _ | .stDecY _ => some .y
  | .ldZInc _ | .ldDecZ _ | .stZInc _ | .stDecZ _ | .lpmZInc _ | .elpmZInc _ => some .z
  | .lds _ _ | .ldX _ | .ldY _ | .lddY _ _ | .ldZ _ | .lddZ _ _ | .sts _ _ | .stX _ | .stY _ | .stdY _ _ | .stZ _
  | .stdZ _ _ | .ioIn _ _ | .ioOut _ _ | .sbic _ _ | .sbis _ _ | .sbi _ _ | .cbi _ _ | .push _ | .pop _ | .rcall _
  | .icall | .eicall | .call _ | .ret | .reti | .add _ _ | .adc _ _ | .adiw _ _ | .sub _ _ | .subi _ _ | .sbc _ _
  | .sbci _ _ | .sbiw _ _ | .and _ _ | .andi _ _ | .or _ _ | .ori _ _ | .eor _ _ | .com _ | .neg _ | .inc _ | .dec _
  | .mul _ _ | .muls _ _ | .mulsu _ _ | .fmul _ _ | .fmuls _ _ | .fmulsu _ _ | .rjmp _ | .ijmp | .eijmp | .jmp _
  | .cpse _ _ | .cp _ _ | .cpc _ _ | .cpi _ _ | .sbrc _ _ | .sbrs _ _ | .brbs _ _ | .brbc _ _ | .mov _ _ | .movw _ _
  | .ldi _ _ | .lpm | .lpmZ _ | .elpm | .elpmZ _ | .spm | .lsr _ | .ror _ | .asr _ | .swap _ | .bset _ | .bclr _
  | .bst _ _ | .bld _ _ | .nop | .sleep | .wdr | .brk => none

/-- The destination registers of an instruction. -/
def Instr.dests : Instr → List Reg
  | .add d _ | .adc d _ | .sub d _ | .subi d _ | .sbc d _ | .sbci d _ | .and d _ | .andi d _ | .or d _ | .ori d _
  | .eor d _ | .com d | .neg d | .inc d | .dec d | .mov d _ | .ldi d _ | .lds d _ | .ldX d | .ldXInc d | .ldDecX d
  | .ldYInc d | .ldDecY d | .ldY d | .lddY d _ | .ldZInc d | .ldDecZ d | .ldZ d | .lddZ d _ | .lpmZ d | .lpmZInc d
  | .elpmZ d | .elpmZInc d | .ioIn d _ | .pop d | .lsr d | .ror d | .asr d | .swap d | .bld d _ => [d]
  | .adiw d _ | .sbiw d _ | .movw d _ => [d, d + 1]
  | .mul _ _ | .muls _ _ | .mulsu _ _ | .fmul _ _ | .fmuls _ _ | .fmulsu _ _ => [0, 1]
  | .lpm | .elpm => [0]
  | .rjmp _ | .ijmp | .eijmp | .jmp _ | .rcall _ | .icall | .eicall | .call _ | .ret | .reti | .cpse _ _ | .cp _ _
  | .cpc _ _ | .cpi _ _ | .sbrc _ _ | .sbrs _ _ | .sbic _ _ | .sbis _ _ | .brbs _ _ | .brbc _ _ | .sts _ _ | .stX _
  | .stXInc _ | .stDecX _ | .stYInc _ | .stDecY _ | .stY _ | .stdY _ _ | .stZInc _ | .stDecZ _ | .stZ _ | .stdZ _ _
  | .spm | .ioOut _ _ | .push _ | .bset _ | .bclr _ | .sbi _ _ | .cbi _ _ | .bst _ _ | .nop | .sleep | .wdr
  | .brk => []

/-- The registers an instruction may write: its destinations, the pair its addressing mode updates, and, for a store
to a data address below 0x20, the register that address names (R32, R89). -/
def Instr.writtenRegs (c : Config) (d : Device) (i : Instr) : List Reg :=
  Instr.dests i ++
  (match Instr.movedPtr i with
    | some p => [p.low, p.low + 1]
    | none => []) ++
  (match Instr.access c d i with
    | .store a => if a.toNat ≤ 0x1F then [Fin.ofNat 32 a.toNat] else []
    | .none | .load _ | .io _ | .push _ | .pop _ => [])

/-- The SREG bits an instruction may write as flags (the flag lines of its rule). -/
def Instr.flagMask : Instr → Byte
  | .add _ _ | .adc _ _ | .sub _ _ | .subi _ _ | .sbc _ _ | .sbci _ _ | .neg _ | .cp _ _ | .cpc _ _ | .cpi _ _ => 0x3F
  | .adiw _ _ | .sbiw _ _ | .com _ | .lsr _ | .ror _ | .asr _ => 0x1F
  | .and _ _ | .andi _ _ | .or _ _ | .ori _ _ | .eor _ _ | .inc _ | .dec _ => 0x1E
  | .mul _ _ | .muls _ _ | .mulsu _ _ | .fmul _ _ | .fmuls _ _ | .fmulsu _ _ => 0x03
  | .bset f | .bclr f => 1#8 <<< f.val
  | .bst _ _ => 0x40
  | .reti => 0x80
  | .rjmp _ | .ijmp | .eijmp | .jmp _ | .rcall _ | .icall | .eicall | .call _ | .ret | .cpse _ _ | .sbrc _ _
  | .sbrs _ _ | .sbic _ _ | .sbis _ _ | .brbs _ _ | .brbc _ _ | .mov _ _ | .movw _ _ | .ldi _ _ | .lds _ _ | .ldX _
  | .ldXInc _ | .ldDecX _ | .ldYInc _ | .ldDecY _ | .ldY _ | .lddY _ _ | .ldZInc _ | .ldDecZ _ | .ldZ _ | .lddZ _ _
  | .sts _ _ | .stX _ | .stXInc _ | .stDecX _ | .stYInc _ | .stDecY _ | .stY _ | .stdY _ _ | .stZInc _ | .stDecZ _
  | .stZ _ | .stdZ _ _ | .lpm | .lpmZ _ | .lpmZInc _ | .elpm | .elpmZ _ | .elpmZInc _ | .spm | .ioIn _ _
  | .ioOut _ _ | .push _ | .pop _ | .swap _ | .sbi _ _ | .cbi _ _ | .bld _ _ | .nop | .sleep | .wdr | .brk => 0

/-- The instruction writes the data address a. -/
def Instr.writesData (c : Config) (d : Device) (i : Instr) (a : Nat) : Bool :=
  match i with
  | .ioOut x _ => Device.ioAddr x = a
  | _ => Instr.access c d i = .store (BitVec.ofNat 16 a)

/-! ### Invariants of a Device -/

namespace Device

/-- The reserved and read-only bits of the control registers hold 0 (R40 to R43, R45, R46, R48, R50 to R52). -/
def reservedClear (d : Device) : Bool :=
  d.ctl.rampz &&& 0xFC == 0 && d.ctl.eind &&& 0xFE == 0 && d.ctl.smcr &&& 0xF0 == 0 && d.ctl.mcucr &&& 0x6F == 0 &&
  d.timer.tccr0a &&& 0x0C == 0 && d.timer.tccr0b &&& 0xF0 == 0 && d.timer.timsk0 &&& 0xF8 == 0 &&
  d.timer.tifr0 &&& 0xF8 == 0 && d.usart.ucsr0b &&& 0x02 == 0 && d.usart.ubrr0h &&& 0xF0 == 0 &&
  (d.portRegs .g).ddr &&& 0xC0 == 0 && (d.portRegs .g).port &&& 0xC0 == 0

/-- The transmitter's bit and its cycles left are in range (R56). -/
def txInRange : TxState → Bool
  | .idle => true
  | .busy bit left _ => bit ≤ 9 && 1 ≤ left

end Device

/-- A receiver's sample index and its wait are in range (R56, R547). -/
def rxInRange : RxState → Bool
  | .idle => true
  | .frame j wait _ => j ≤ 9 && 1 ≤ wait

/-- The memories, the program counter, the clock and the fault record of a Device in cycle k. -/
structure Device.CoreInv (c : Config) (k : Nat) (d : Device) : Prop where
  /-- SRAM is in canonical form. -/
  sramCanonical : Memory.wf .sram d.sram = true
  /-- SRAM holds nothing outside 0x0200..0x21FF (R54). -/
  sramInRange : ∀ cell ∈ d.sram, 0x200 ≤ cell.1 ∧ cell.1 ≤ 0x21FF
  /-- Program memory is in canonical form. -/
  progCanonical : Memory.wf .program d.prog = true
  /-- pc is a `PC_BITS`-bit value (R37). -/
  pcInRange : d.pc.toNat < c.pcModulus
  /-- A Device that is not halted has no boundary in the past (R530). -/
  notLate : d.isHalted = false → k ≤ d.time
  /-- A fault record names this Device, its pc and its T (R401). -/
  recordTrue : ∀ r, d.mode = .halted r → r.device = d.name ∧ r.pc = d.pc ∧ r.time = d.time

/-- The peripherals and the interrupt latches of a Device. -/
structure Device.UnitInv (d : Device) : Prop where
  reserved : d.reservedClear = true
  /-- Timer0 is in a modelled configuration (R469). -/
  timerModelled : d.timer.refusal = none
  /-- In a non-PWM mode no buffered compare value is left behind (R453). -/
  compareLive : d.timer.waveMode.isNonPwm = true →
    d.timer.ocr0a = d.timer.ocr0aBuf ∧ d.timer.ocr0b = d.timer.ocr0bBuf
  /-- An enabled USART0 is in asynchronous 8N1 (R481). -/
  usartModelled : (d.usart.rxen || d.usart.txen) = true → d.usart.is8N1 = true
  txRange : Device.txInRange d.usart.tx = true
  rxRange : rxInRange d.usart.rx = true
  /-- A `fired` latch is set only while its flag is (R413). -/
  firedHasFlag : (d.fired25 = true → d.usart.rxc = true) ∧ (d.fired26 = true → d.usart.udre = true)
  /-- `inhibit` follows SEI or RETI, which set SREG.I (R414). -/
  inhibitHasI : d.inhibit = true → d.iFlag = true
  /-- SLEEP leaves `inhibit` clear (R391, R417). -/
  sleepNotInhibited : d.mode = .sleeping → d.inhibit = false

/-- Both invariants of every Device of a run, and the receivers of its terminals in range (R545, R547). -/
structure State.CoreInv (s : State) : Prop where
  dev : s.dev.CoreInv s.cfg s.cycle
  siblings : ∀ d ∈ s.siblings, d.CoreInv s.cfg s.cycle

structure State.UnitInv (s : State) : Prop where
  dev : s.dev.UnitInv
  siblings : ∀ d ∈ s.siblings, d.UnitInv
  terminals : ∀ t ∈ s.terminals, 2 ≤ t.bitCycles ∧ rxInRange t.rx = true

/-- The record keeping of a run: each wire holds one sample of each end for each of the last `delay` + 1 cycles, as
far as the run goes back, and the trace is ordered by cycle, then by signal, with nothing from a cycle not yet
processed (R520, R551). -/
structure State.RecordInv (s : State) : Prop where
  histories : ∀ w ∈ s.wires, w.histA.length = min s.cycle (w.delay + 1) ∧ w.histB.length = min s.cycle (w.delay + 1)
  ordered : s.trace.Pairwise fun e f => e.cycle < f.cycle ∨ (e.cycle = f.cycle ∧ e.signal < f.signal)
  past : ∀ e ∈ s.trace, e.cycle < s.cycle ∧ e.signal < s.signals.length

/-! ### Iterated ticks -/

/-- n ticks of Timer0 alone, in the cycles k, k + 1, ... (R460, R461). -/
def Timer0.advanceN (t : Timer0) (k : Nat) : Nat → Timer0
  | 0 => t
  | n + 1 => (t.advanceN k n).advance (k + n)

/-- n transmitter ticks (R487). -/
def Usart0.txTicks (u : Usart0) : Nat → Usart0
  | 0 => u
  | n + 1 => (u.txTicks n).txTick

/-- n receiver ticks with the samples `line` 0, 1, ... (R488). -/
def Usart0.rxTicks (u : Usart0) (line : Nat → Bool) : Nat → Usart0
  | 0 => u
  | n + 1 => (u.rxTicks line n).rxTick (line n)

/-- n ticks of a terminal's receiver in the cycles k, k + 1, ... with the line at `line` 0, 1, ... (R547). -/
def Terminal.rxTicks (v : Terminal) (k : Nat) (line : Nat → Bool) : Nat → Terminal
  | 0 => v
  | n + 1 => (v.rxTicks k line n).tick (k + n) (Level.ofBool (line n))

/-- The cycle s_i in which frame i of a send list starts, at bit period B (R546). -/
def Terminal.frameStart (bitCycles : Nat) (sends : List (Nat × Byte)) : Nat → Nat
  | 0 => (sends.getD 0 (0, 0)).1
  | i + 1 => max (sends.getD (i + 1) (0, 0)).1 (Terminal.frameStart bitCycles sends i + 10 * bitCycles)

/-- The history of an endpoint whose drive in cycle j is `drive j`, after the cycles 0 .. n - 1 (R520). -/
def Wire.history (delay : Nat) (drive : Nat → Drive) : Nat → List Sample
  | 0 => []
  | n + 1 => Wire.push delay n (Wire.history delay drive n) (drive n)

end Sys2Proof.Machine
end

