-- ==== Sys2Proof/Certificates/Slice0/Obligations.lean ====
section
/-! DEFINITION. The statements for the provers. Each docstring says which rules of spec/ it formalises. The words they
are made of are in Safety.lean; the definitions before each group below are the shapes its statements share. -/

namespace Sys2Proof.Machine

/-! ### An instruction's form: the operands its rule admits, and the word its encoding gives them, in numbers -/

/-- The instruction is well-formed exactly when its operands are those its rule admits, and then `word` is its one
word. -/
def Form (i : Instr) (admitted : Prop) [Decidable admitted] (word : Nat) : Prop :=
  i.WellFormed = flag admitted ∧ (admitted → encode i = [BitVec.ofNat 16 word])

/-- `oooo oord dddd rrrr` (R125). -/
def wordRR (op : Nat) (d r : Reg) : Nat := 1024 * op + 512 * (r.val / 16) + 16 * d.val + r.val % 16

/-- `oooo KKKK dddd KKKK`, d from 16 (R126). -/
def wordRK (op : Nat) (d : Reg) (k : Byte) : Nat :=
  4096 * op + 256 * (k.toNat / 16) + 16 * (d.val - 16) + k.toNat % 16

/-- `1001 010d dddd oooo` (R127). -/
def wordR1 (op : Nat) (d : Reg) : Nat := 0x9400 + 16 * d.val + op

/-- `1001 011o KKdd KKKK`, d one of 24, 26, 28, 30 (R128). -/
def wordIW (op : Nat) (d : Reg) (k : BitVec 6) : Nat :=
  0x9600 + 256 * op + 64 * (k.toNat / 16) + 16 * ((d.val - 24) / 2) + k.toNat % 16

/-- `0000 0011 oddd orrr`, d and r from 16 to 23 (R129). -/
def wordMul3 (op : Nat) (d r : Reg) : Nat := 0x0300 + op + 16 * (d.val - 16) + (r.val - 16)

/-! ### Shapes of the arithmetic statements (40_arith_logic.md) -/

/-- Rd becomes a + b + c modulo 256 and the flags are those of that exact sum (R200, R203, R204). -/
def AddCase (i : Instr) (s : State) (d : Reg) (a b : Byte) (c : Nat) : Prop :=
  ∃ f, SregIs s.dev.sreg f
      (flag (16 ≤ a.toNat % 16 + b.toNat % 16 + c))
      (flag (a.toInt + b.toInt + c < -128 ∨ 127 < a.toInt + b.toInt + c))
      (flag (128 ≤ (a.toNat + b.toNat + c) % 256))
      (flag ((a.toNat + b.toNat + c) % 256 = 0))
      (flag (256 ≤ a.toNat + b.toNat + c)) ∧
    Completes i s (((s.dev.setReg d (BitVec.ofNat 8 (a.toNat + b.toNat + c))).setSreg f).past s.cfg 1 1)

/-- The flags of the exact difference a - b - c, Z being the difference's zero test and `keep` (R200). -/
def SubSreg (old new a b : Byte) (c : Nat) (keep : Bool) : Prop :=
  SregIs old new
    (flag (a.toNat % 16 < b.toNat % 16 + c))
    (flag (a.toInt - b.toInt - c < -128 ∨ 127 < a.toInt - b.toInt - c))
    (flag (128 ≤ (a.toNat + 512 - b.toNat - c) % 256))
    (flag ((a.toNat + 512 - b.toNat - c) % 256 = 0) && keep)
    (flag (a.toNat < b.toNat + c))

/-- Rd becomes a - b - c modulo 256, with those flags. -/
def SubCase (i : Instr) (s : State) (d : Reg) (a b : Byte) (c : Nat) (keep : Bool) : Prop :=
  ∃ f, SubSreg s.dev.sreg f a b c keep ∧
    Completes i s (((s.dev.setReg d (BitVec.ofNat 8 (a.toNat + 512 - b.toNat - c))).setSreg f).past s.cfg 1 1)

/-- Those flags alone: no register is written. -/
def CmpCase (i : Instr) (s : State) (a b : Byte) (c : Nat) (keep : Bool) : Prop :=
  ∃ f, SubSreg s.dev.sreg f a b c keep ∧ Completes i s ((s.dev.setSreg f).past s.cfg 1 1)

/-- A pair becomes the exact word result x (taken modulo 65536) with the word flags; H is kept (R205, R210). -/
def WordCase (i : Instr) (s : State) (d : Reg) (x : Int) (v c : Bool) : Prop :=
  ∃ f, SregIs s.dev.sreg f (bitOf s.dev.sreg 5) v (flag (32768 ≤ x % 65536)) (flag (x % 65536 = 0)) c ∧
    Completes i s (((s.dev.setPair d (BitVec.ofInt 16 x)).setSreg f).past s.cfg 1 2)

/-- Rd becomes the byte whose every bit is `op` of the operands' bits; V is 0, N and Z follow it, H is kept, and C is
c (R201, R211 to R216). -/
def LogicCase (i : Instr) (s : State) (d : Reg) (a b : Byte) (op : Bool → Bool → Bool) (c : Bool) : Prop :=
  ∃ v f, (∀ k < 8, bitOf v k = op (bitOf a k) (bitOf b k)) ∧
    SregIs s.dev.sreg f (bitOf s.dev.sreg 5) false (flag (128 ≤ v.toNat)) (flag (v.toNat = 0)) c ∧
    Completes i s (((s.dev.setReg d v).setSreg f).past s.cfg 1 1)

/-- Rd becomes n, with V, N and Z as given by it; H and C are kept (R218, R219). -/
def StepCase (i : Instr) (s : State) (d : Reg) (n : Nat) (v : Bool) : Prop :=
  ∃ f, SregIs s.dev.sreg f (bitOf s.dev.sreg 5) v (flag (128 ≤ n)) (flag (n = 0)) (bitOf s.dev.sreg 0) ∧
    Completes i s (((s.dev.setReg d (BitVec.ofNat 8 n)).setSreg f).past s.cfg 1 1)

/-- R1:R0 becomes the product p times `scale`; C is bit 15 of the product, Z the zero test of what is written, the
other flags are kept (R220 to R225). -/
def MulCase (i : Instr) (s : State) (p : Int) (scale : Int) : Prop :=
  ∃ f, bitOf f 0 = flag (32768 ≤ p % 65536) ∧ bitOf f 1 = flag (scale * p % 65536 = 0) ∧
    (∀ k, 2 ≤ k → bitOf f k = bitOf s.dev.sreg k) ∧
    Completes i s (((s.dev.setPair 0 (BitVec.ofInt 16 (scale * p))).setSreg f).past s.cfg 1 2)

/-- Rd becomes n, the right shift of a: C is a's bit 0, N the result's bit 7, V = N ⊕ C; H is kept (R360 to R362). -/
def ShiftCase (i : Instr) (s : State) (d : Reg) (a : Byte) (n : Nat) : Prop :=
  ∃ f, SregIs s.dev.sreg f (bitOf s.dev.sreg 5) (flag (128 ≤ n) ^^ flag (a.toNat % 2 = 1)) (flag (128 ≤ n))
      (flag (n = 0)) (flag (a.toNat % 2 = 1)) ∧
    Completes i s (((s.dev.setReg d (BitVec.ofNat 8 n)).setSreg f).past s.cfg 1 1)

/-- SREG.C as a number. -/
def carryNat (s : State) : Nat := if bitOf s.dev.sreg 0 then 1 else 0

/-! ### Shapes of the control-flow statements (41_branch.md) -/

/-- `(pc + 1 + k) mod M` (R250). -/
def relative (s : State) (k : Int) : Nat := (((s.dev.pc.toNat : Int) + 1 + k) % (s.cfg.pcModulus : Int)).toNat

/-- `{EIND[0], Z}` (R250). -/
def extended (s : State) : Nat := 65536 * (s.dev.ctl.eind.toNat % 2) + (s.dev.ptr .z).toNat

/-- A jump to `target` in `cycles` cycles: it completes iff the target is below M (R250). -/
def JumpCase (i : Instr) (s : State) (target cycles : Nat) : Prop :=
  (target < s.cfg.pcModulus → Completes i s (s.dev.jumped target cycles)) ∧
  (s.cfg.pcModulus ≤ target → Halts i s (.bus .fetch (2 * target)))

/-- Every byte of a return address pushed at `sp` lies in SRAM (R98, R404). -/
def pushRoom (c : Config) (sp : Word) : Prop := 0x200 + c.pcBits.raBytes ≤ sp.toNat + 1 ∧ sp.toNat ≤ 0x21FF

/-- Every byte of a return address popped at `sp` lies in SRAM (R98, R404). -/
def popRoom (c : Config) (sp : Word) : Prop := 0x1FF ≤ sp.toNat ∧ sp.toNat + c.pcBits.raBytes ≤ 0x21FF

/-- The first address of a push from `sp` that lies outside SRAM, when one does: `sp` itself, or the byte below
SRAM (R98). -/
def pushFaultAt (sp : Word) : Word := if 0x200 ≤ sp.toNat ∧ sp.toNat ≤ 0x21FF then 0x1FF else sp

/-- As `pushFaultAt`, for a pop. -/
def popFaultAt (sp : Word) : Word :=
  if 0x1FF ≤ sp.toNat ∧ sp.toNat ≤ 0x21FE then 0x2200 else BitVec.ofNat 16 (sp.toNat + 1)

/-- SRAM after the return address `ra` is pushed at `sp`, low byte first: every byte (R99, R251). -/
def Pushed (c : Config) (d d' : Device) (ra : Nat) : Prop :=
  ∀ a, d'.sramByte a =
    if a = d.sp.toNat then BitVec.ofNat 8 ra
    else if a = d.sp.toNat - 1 then BitVec.ofNat 8 (ra / 256)
    else if c.pcBits.raBytes = 3 ∧ a = d.sp.toNat - 2 then BitVec.ofNat 8 (ra / 65536)
    else d.sramByte a

/-- A call of `len` words to `target` in `cycles` cycles (R251): the return address is pushed, SP falls by
`RA_BYTES`, and only SRAM, SP, pc, T and `inhibit` change; a push outside SRAM halts the Device. -/
def CallCase (i : Instr) (s : State) (len target cycles : Nat) : Prop :=
  (pushRoom s.cfg s.dev.sp → ∃ m, Memory.wf .sram m = true ∧
    Completes i s { s.dev.jumped target cycles with
      sram := m, sp := BitVec.ofNat 16 (s.dev.sp.toNat - s.cfg.pcBits.raBytes) } ∧
    Pushed s.cfg s.dev { s.dev with sram := m } ((s.dev.pc.toNat + len) % s.cfg.pcModulus)) ∧
  (¬ pushRoom s.cfg s.dev.sp → Halts i s (.stack .push (pushFaultAt s.dev.sp)))

/-- The return address on the stack, high byte at the lowest address (R99). -/
def stackedRA (c : Config) (d : Device) : Nat :=
  let b (i : Nat) : Nat := (d.sramByte (d.sp.toNat + i)).toNat
  match c.pcBits with
  | .w16 => 256 * b 1 + b 2
  | .w17 => 65536 * b 1 + 256 * b 2 + b 3

/-- The skip step (R262) of a skip whose condition is `cond`, the Device being `d` after the instruction's own
reads. -/
def SkipCase (i : Instr) (s : State) (d : Device) (cond : Prop) : Prop :=
  let next := nextPc s.cfg s.dev.pc 1
  let w := s.dev.progWord next
  let long := (w &&& 0xFE0E = 0x940C) ∨ (w &&& 0xFE0E = 0x940E) ∨ (w &&& 0xFE0F = 0x9000) ∨ (w &&& 0xFE0F = 0x9200)
  (¬ cond → Completes i s (d.past s.cfg 1 1)) ∧
  (cond → 2 * next.toNat + 1 < s.cfg.progBytes → ¬ long → Completes i s (d.past s.cfg 2 2)) ∧
  (cond → 2 * next.toNat + 1 < s.cfg.progBytes → long → Completes i s (d.past s.cfg 3 3)) ∧
  (cond → s.cfg.progBytes ≤ 2 * next.toNat + 1 → Halts i s (.bus .fetch (2 * next.toNat)))

/-! ### Shapes of the transfer statements (42_data_transfer.md) -/

/-- The data address is in no region, or in the I/O window with no unit there (R82, R93). -/
def unmapped (a : Nat) : Prop := 0x2200 ≤ a ∨ (0x20 ≤ a ∧ a ≤ 0x1FF ∧ ioReg a = none)

/-- A load of Rd from data address a, with the pointer's update `upd` (R88, R300): the register file, a claimed I/O
register with its read's side effect, SRAM, or the bus fault. -/
def LoadCase (i : Instr) (s : State) (rd : Reg) (a : Word) (upd : Device → Device) (words : Nat) : Prop :=
  (a.toNat ≤ 0x1F →
    Completes i s (((upd s.dev).setReg rd (s.dev.reg (Fin.ofNat 32 a.toNat))).past s.cfg words 2)) ∧
  (∀ r, ioReg a.toNat = some r →
    Completes i s (((upd (s.dev.afterIoRead r)).setReg rd (s.dev.ioValue r)).past s.cfg words 2)) ∧
  (0x200 ≤ a.toNat → a.toNat ≤ 0x21FF →
    Completes i s (((upd s.dev).setReg rd (s.dev.sramByte a.toNat)).past s.cfg words 2)) ∧
  (unmapped a.toNat → Halts i s (.bus .read a.toNat))

/-- A store of Rr to data address a, with the pointer's update `upd` after it (R89, R300). -/
def StoreCase (i : Instr) (s : State) (rr : Reg) (a : Word) (upd : Device → Device) (words : Nat) : Prop :=
  (a.toNat ≤ 0x1F →
    Completes i s ((upd (s.dev.setReg (Fin.ofNat 32 a.toNat) (s.dev.reg rr))).past s.cfg words 2)) ∧
  (∀ r d, ioReg a.toNat = some r → s.dev.ioStore (s.dev.reg rr) 0xFF r = .ok d →
    Completes i s ((upd d).past s.cfg words 2)) ∧
  (∀ r e, ioReg a.toNat = some r → s.dev.ioStore (s.dev.reg rr) 0xFF r = .error e → Halts i s e) ∧
  (0x200 ≤ a.toNat → a.toNat ≤ 0x21FF →
    Completes i s ((upd (s.dev.setSramByte a.toNat (s.dev.reg rr))).past s.cfg words 2)) ∧
  (unmapped a.toNat → Halts i s (.bus .write a.toNat))

/-- P becomes the address x (modulo 65536). -/
def moveTo (p : Ptr) (x : Int) (d : Device) : Device := d.setPtr p (BitVec.ofInt 16 x)

/-- A pointer pair as an integer. -/
def ptrInt (s : State) (p : Ptr) : Int := (s.dev.ptr p).toNat

/-- An integer as a data address (modulo 65536). -/
def dataAddr (x : Int) : Word := BitVec.ofInt 16 x

/-- A load of Rd from program byte a, with the pointer's update `upd` (R84, R330 to R336). -/
def ProgLoadCase (i : Instr) (s : State) (rd : Reg) (a : Nat) (upd : Device → Device) : Prop :=
  (a < s.cfg.progBytes → Completes i s (((upd s.dev).setReg rd (s.dev.progByte a)).past s.cfg 1 3)) ∧
  (s.cfg.progBytes ≤ a → Halts i s (.bus .read a))

/-- `{RAMPZ[1:0], Z}` (R333). -/
def elpmAddr (s : State) : Nat := 65536 * (s.dev.ctl.rampz.toNat % 4) + (s.dev.ptr .z).toNat

/-- RAMPZ[1:0] and Z become the two parts of the 18-bit address e; RAMPZ's other bits are kept (R336). -/
def elpmMoved (e : Nat) (d : Device) : Device :=
  (d.setCtl { d.ctl with rampz := BitVec.ofNat 8 (4 * (d.ctl.rampz.toNat / 4) + e / 65536 % 4) }).setPtr .z
    (BitVec.ofNat 16 e)

/-- A register of the I/O window is plain storage with these implemented bits (R92, R95). -/
def plainBits : IoReg → Option Byte
  | .ddr p | .port p => some p.pins
  | .gpior0 | .gpior1 | .gpior2 | .tcnt0 | .ocr0a | .ocr0b | .spl | .sph | .sreg | .ucsr0c | .ubrr0l => some 0xFF
  | .tccr0a => some 0xF3
  | .tccr0b | .smcr | .ubrr0h => some 0x0F
  | .mcucr => some 0x90
  | .rampz => some 0x03
  | .eind => some 0x01
  | .timsk0 => some 0x07
  | .pin _ | .tifr0 | .ucsr0a | .ucsr0b | .udr0 => none

/-- A read of a register of the I/O window (R94, R490): of UDR0, the last byte delivered, after which RXC0, DOR0 and
FE0 are 0; of PINx, one draw of the model's own (log 8); any other changes nothing. -/
def ReadEffect (d : Device) : Prop :=
  d.ioValue .udr0 = d.usart.rxBuf ∧
  d.afterIoRead .udr0 = { d with usart := { d.usart with rxc := false, dor := false, fe := false } } ∧
  (∀ p, d.afterIoRead (.pin p) = { d with draws := d.draws + 1 }) ∧
  (∀ r, r ≠ .udr0 → (∀ p, r ≠ .pin p) → d.afterIoRead r = d)

/-- The bits of UCSR0A as read (R49, R491). -/
def Ucsr0aBits (d : Device) : Prop :=
  let v := d.ioValue .ucsr0a
  bitOf v 7 = d.usart.rxc ∧ bitOf v 6 = d.usart.txc ∧ bitOf v 5 = flag (d.usart.tx = .idle) ∧ bitOf v 4 = d.usart.fe ∧
  bitOf v 3 = d.usart.dor ∧ bitOf v 2 = false ∧ bitOf v 1 = d.usart.u2x ∧ bitOf v 0 = d.usart.mpcm

/-- Writing v to a register of plain storage, when it is not refused: the register reads v in its implemented bits and
0 in the others, provided those were 0 before, and every other register but PINx reads as before (R92). -/
def PlainWrite (d : Device) (v : Byte) : Prop := ∀ (r : IoReg) (bits : Byte) (x : Device),
  plainBits r = some bits → d.ioValue r &&& ~~~bits = 0 → d.ioStore v 0xFF r = .ok x →
  x.ioValue r = v &&& bits ∧ ∀ q, q ≠ r → (∀ p, q ≠ .pin p) → x.ioValue q = d.ioValue q

/-- WGM as a number, from TCCR0A and TCCR0B (R450). -/
def wgmOf (a b : Byte) : Nat := 4 * (b.toNat / 8 % 2) + a.toNat % 4

/-- The non-PWM modes and the PWM modes of R451. -/
def nonPwm (t : Timer0) : Prop := wgmOf t.tccr0a t.tccr0b = 0 ∨ wgmOf t.tccr0a t.tccr0b = 2
def fastPwm (t : Timer0) : Prop := wgmOf t.tccr0a t.tccr0b = 3 ∨ wgmOf t.tccr0a t.tccr0b = 7

/-- A latch after the strobe of its channel in a non-PWM mode, by COM0x (R468, R470). -/
def strobed (com : Nat) (latch : Bool) : Bool :=
  match com with
  | 1 => !latch
  | 2 => false
  | 3 => true
  | _ => latch

/-- Timer0 with its buffered compare values made live (R453). -/
def loaded (t : Timer0) : Timer0 := { t with ocr0a := t.ocr0aBuf, ocr0b := t.ocr0bBuf }

/-- What writing v to each of Timer0's registers does beside storing it (R466, R92, R453, R468): TCNT0 blocks the next
match; a 1 in TIFR0 clears its flag; OCR0x is live at once in the non-PWM modes and stays buffered in the PWM modes;
TCCR0A and TCCR0B load the buffers in the non-PWM modes, where the strobes of TCCR0B act. -/
def TimerWrite (d : Device) (v : Byte) : Prop :=
  let t := d.timer
  d.ioStore v 0xFF .tcnt0 = .ok { d with timer := { t with tcnt0 := v, block := true } } ∧
  (∃ f, (∀ k < 8, bitOf f k = (bitOf t.tifr0 k && !(flag (k < 3) && bitOf v k))) ∧
    d.ioStore v 0xFF .tifr0 = .ok { d with timer := { t with tifr0 := f } }) ∧
  (∀ x, d.ioStore v 0xFF .ocr0a = .ok x →
    (nonPwm t → x = { d with timer := { t with ocr0aBuf := v, ocr0a := v }, draws := x.draws }) ∧
    (fastPwm t → x = { d with timer := { t with ocr0aBuf := v }, draws := x.draws })) ∧
  (∀ x, d.ioStore v 0xFF .ocr0b = .ok x →
    (nonPwm t → x = { d with timer := { t with ocr0bBuf := v, ocr0b := v }, draws := x.draws }) ∧
    (fastPwm t → x = { d with timer := { t with ocr0bBuf := v }, draws := x.draws })) ∧
  (∀ x, d.ioStore v 0xFF .tccr0a = .ok x →
    let u := { t with tccr0a := x.timer.tccr0a }
    (nonPwm u → x = { d with timer := loaded u }) ∧ (¬ nonPwm u → x = { d with timer := u })) ∧
  (∀ x, d.ioStore v 0xFF .tccr0b = .ok x →
    let u := { t with tccr0b := x.timer.tccr0b }
    let a := if bitOf v 7 = true then strobed (t.tccr0a.toNat / 64) t.oc0a else t.oc0a
    let b := if bitOf v 6 = true then strobed (t.tccr0a.toNat / 16 % 4) t.oc0b else t.oc0b
    (nonPwm u → x = { d with timer := { loaded u with oc0a := a, oc0b := b } }) ∧
    (¬ nonPwm u → x = { d with timer := u }))

/-- The bit period D in cycles, from UBRR0 and U2X0 (R482). -/
def bitPeriodOf (u : Usart0) : Nat :=
  (if u.u2x = true then 8 else 16) * (256 * (u.ubrr0h.toNat % 16) + u.ubrr0l.toNat + 1)

/-- What writing v to UDR0, UCSR0A and UCSR0B does (R486, R49, R50, R492): a byte starts a frame in an enabled, idle
transmitter and is ignored otherwise; a 1 clears TXC0; bit 1 of UCSR0B is kept, and clearing RXEN0 flushes the
receiver but for its buffer. -/
def UsartWrite (d : Device) (v : Byte) : Prop :=
  let u := d.usart
  (bitOf u.ucsr0b 3 = true → u.tx = .idle →
    d.ioStore v 0xFF .udr0 = .ok { d with usart := { u with tx := .busy 0 (bitPeriodOf u) v } }) ∧
  (bitOf u.ucsr0b 3 = false ∨ u.tx ≠ .idle → d.ioStore v 0xFF .udr0 = .ok d) ∧
  (∀ x, d.ioStore v 0xFF .ucsr0a = .ok x →
    x = { d with usart := { u with txc := u.txc && !bitOf v 6, u2x := bitOf v 1, mpcm := bitOf v 0 } }) ∧
  (∀ x, d.ioStore v 0xFF .ucsr0b = .ok x → ∃ b, (∀ k < 8, bitOf b k = bitOf (if k = 1 then u.ucsr0b else v) k) ∧
    (bitOf u.ucsr0b 4 = true → bitOf v 4 = false → x = { d with usart := { u with
      ucsr0b := b, rx := .idle, rxPrev := false, rxc := false, fe := false, dor := false } }) ∧
    (bitOf u.ucsr0b 4 = false ∨ bitOf v 4 = true → x = { d with usart := { u with ucsr0b := b } }))

/-! ### Shapes of the peripheral statements (61_devices.md) -/

/-- The bit on a line n cycles after a frame that carries v started, at bit period D: start bit, eight data bits from
the least significant, stop bit (R487, R546). -/
def frameLine (bitPeriod : Nat) (v : Byte) (n : Nat) : Bool :=
  if n / bitPeriod = 0 then false else if n / bitPeriod ≤ 8 then bitOf v (n / bitPeriod - 1) else true

/-- An input pin: a pull-up if PORTx has its bit set and PUD is 0 (R511, R512). -/
def inputPin (d : Device) (p : PortName) (n : Fin 8) : Drive :=
  if bitOf (d.portRegs p).port n.val = true ∧ bitOf d.ctl.mcucr 4 = false then .pullUp else .float

/-- A plain port pin: by DDRx, then as an input (R511). -/
def portPin (d : Device) (p : PortName) (n : Fin 8) : Drive :=
  if bitOf (d.portRegs p).ddr n.val = true then .strong (bitOf (d.portRegs p).port n.val) else inputPin d p n

/-- `txbit` (R483). -/
def txLine : TxState → Bool
  | .idle => true
  | .busy bit _ shift => if bit = 0 then false else if bit ≤ 8 then bitOf shift (bit - 1) else true

/-- What every pin drives (R511), the channels being connected as R470 says; a pin that does not exist drives
nothing. -/
def PinMultiplexer (d : Device) : Prop :=
  let comA := d.timer.tccr0a.toNat / 64
  let comB := d.timer.tccr0a.toNat / 16 % 4
  let wgm := wgmOf d.timer.tccr0a d.timer.tccr0b
  d.pinDrive .e 1 =
    (if bitOf d.usart.ucsr0b 3 = true ∨ d.usart.tx ≠ .idle then .strong (txLine d.usart.tx) else portPin d .e 1) ∧
  d.pinDrive .b 7 =
    (if comA ≠ 0 ∧ ¬ (comA = 1 ∧ (wgm = 1 ∨ wgm = 3)) ∧ bitOf (d.portRegs .b).ddr 7 = true then .strong d.timer.oc0a
     else portPin d .b 7) ∧
  d.pinDrive .g 5 =
    (if comB ≠ 0 ∧ bitOf (d.portRegs .g).ddr 5 = true then .strong d.timer.oc0b else portPin d .g 5) ∧
  d.pinDrive .e 0 = (if bitOf d.usart.ucsr0b 4 = true then inputPin d .e 0 else portPin d .e 0) ∧
  (∀ p n, (p, n) ∉ [(.e, 1), (.b, 7), (.g, 5), (.e, 0)] → p.hasPin n = true → d.pinDrive p n = portPin d p n) ∧
  (∀ p n, p.hasPin n = false → d.pinDrive p n = .float)

/-- The level of an endpoint (R513, R520): by its own drive on no wire; on one wire, by the wire's policy from its own
drive of this cycle and the other end's, as late as the wire. -/
def EndpointLevel (s : State) (e : Endpoint) : Prop :=
  let on (w : Wire) : Prop := w.a = e ∨ w.b = e
  ((∀ w ∈ s.wires, ¬ on w) →
    s.level e = match s.drive e with
      | .strong b => Level.ofBool b
      | .pullUp => .one
      | .float => .z) ∧
  (∀ w ∈ s.wires, (∀ x ∈ s.wires, on x → x = w) →
    (w.a = e → s.level e = Wire.resolve w.policy (Wire.near w.histA) (Wire.far w.delay w.histB)) ∧
    (w.b = e → w.a ≠ e → s.level e = Wire.resolve w.policy (Wire.far w.delay w.histA) (Wire.near w.histB)))

/-- The parts of a Device that only its own boundaries change. -/
def SameCore (d e : Device) : Prop :=
  e.pc = d.pc ∧ e.regs = d.regs ∧ e.sreg = d.sreg ∧ e.sp = d.sp ∧ e.sram = d.sram

end Sys2Proof.Machine

open Sys2Proof Sys2Proof.Machine

/-! ### Arithmetic and logic

Each of these says, beside the result and the flags, the operands the rule admits and the word of its encoding. -/

/-- ADD and ADC (R203, R204): the result modulo 256, each flag as a fact about the exact sum, one word, one cycle, and
nothing else changes. -/
def Obligations.AddResult : Prop := ∀ (s : State) (d r : Reg),
  AddCase (.add d r) s d (s.dev.reg d) (s.dev.reg r) 0 ∧
  AddCase (.adc d r) s d (s.dev.reg d) (s.dev.reg r) (carryNat s) ∧
  Form (.add d r) True (wordRR 0b000011 d r) ∧ Form (.adc d r) True (wordRR 0b000111 d r)

/-- SUB, SUBI, SBC, SBCI and NEG (R206 to R209, R217): as for addition; SBC and SBCI keep Z at 0. -/
def Obligations.SubtractResult : Prop := ∀ (s : State) (d r : Reg) (k : Byte),
  SubCase (.sub d r) s d (s.dev.reg d) (s.dev.reg r) 0 true ∧
  SubCase (.subi d k) s d (s.dev.reg d) k 0 true ∧
  SubCase (.sbc d r) s d (s.dev.reg d) (s.dev.reg r) (carryNat s) (bitOf s.dev.sreg 1) ∧
  SubCase (.sbci d k) s d (s.dev.reg d) k (carryNat s) (bitOf s.dev.sreg 1) ∧
  SubCase (.neg d) s d 0 (s.dev.reg d) 0 true ∧
  Form (.sub d r) True (wordRR 0b000110 d r) ∧ Form (.sbc d r) True (wordRR 0b000010 d r) ∧
  Form (.subi d k) (16 ≤ d.val) (wordRK 0b0101 d k) ∧ Form (.sbci d k) (16 ≤ d.val) (wordRK 0b0100 d k) ∧
  Form (.neg d) True (wordR1 0b0001 d)

/-- CP, CPC and CPI (R264 to R266): the flags of the difference, no register written. -/
def Obligations.CompareResult : Prop := ∀ (s : State) (d r : Reg) (k : Byte),
  CmpCase (.cp d r) s (s.dev.reg d) (s.dev.reg r) 0 true ∧
  CmpCase (.cpc d r) s (s.dev.reg d) (s.dev.reg r) (carryNat s) (bitOf s.dev.sreg 1) ∧
  CmpCase (.cpi d k) s (s.dev.reg d) k 0 true ∧
  Form (.cp d r) True (wordRR 0b000101 d r) ∧ Form (.cpc d r) True (wordRR 0b000001 d r) ∧
  Form (.cpi d k) (16 ≤ d.val) (wordRK 0b0011 d k)

/-- ADIW and SBIW (R205, R210): the pair modulo 65536, V the signed overflow and C the unsigned one. -/
def Obligations.WordArithmetic : Prop := ∀ (s : State) (d : Reg) (k : BitVec 6),
  WordCase (.adiw d k) s d ((s.dev.pair d).toNat + k.toNat)
    (flag (32767 < (s.dev.pair d).toInt + k.toNat)) (flag (65536 ≤ (s.dev.pair d).toNat + k.toNat)) ∧
  WordCase (.sbiw d k) s d ((s.dev.pair d).toNat - k.toNat)
    (flag ((s.dev.pair d).toInt - k.toNat < -32768)) (flag ((s.dev.pair d).toNat < k.toNat)) ∧
  Form (.adiw d k) (24 ≤ d.val ∧ d.val % 2 = 0) (wordIW 0 d k) ∧
  Form (.sbiw d k) (24 ≤ d.val ∧ d.val % 2 = 0) (wordIW 1 d k)

/-- AND, ANDI, OR, ORI, EOR and COM (R211 to R216): every bit of the result, and the flags. -/
def Obligations.LogicResult : Prop := ∀ (s : State) (d r : Reg) (k : Byte),
  LogicCase (.and d r) s d (s.dev.reg d) (s.dev.reg r) (· && ·) (bitOf s.dev.sreg 0) ∧
  LogicCase (.andi d k) s d (s.dev.reg d) k (· && ·) (bitOf s.dev.sreg 0) ∧
  LogicCase (.or d r) s d (s.dev.reg d) (s.dev.reg r) (· || ·) (bitOf s.dev.sreg 0) ∧
  LogicCase (.ori d k) s d (s.dev.reg d) k (· || ·) (bitOf s.dev.sreg 0) ∧
  LogicCase (.eor d r) s d (s.dev.reg d) (s.dev.reg r) (· ^^ ·) (bitOf s.dev.sreg 0) ∧
  LogicCase (.com d) s d (s.dev.reg d) 0 (fun a _ => !a) true ∧
  Form (.and d r) True (wordRR 0b001000 d r) ∧ Form (.or d r) True (wordRR 0b001010 d r) ∧
  Form (.eor d r) True (wordRR 0b001001 d r) ∧ Form (.andi d k) (16 ≤ d.val) (wordRK 0b0111 d k) ∧
  Form (.ori d k) (16 ≤ d.val) (wordRK 0b0110 d k) ∧ Form (.com d) True (wordR1 0b0000 d)

/-- INC and DEC (R218, R219): V is set exactly on 0x7F and on 0x80; H and C are kept. -/
def Obligations.IncDecResult : Prop := ∀ (s : State) (d : Reg),
  StepCase (.inc d) s d (((s.dev.reg d).toNat + 1) % 256) (flag ((s.dev.reg d).toNat = 127)) ∧
  StepCase (.dec d) s d (((s.dev.reg d).toNat + 255) % 256) (flag ((s.dev.reg d).toNat = 128)) ∧
  Form (.inc d) True (wordR1 0b0011 d) ∧ Form (.dec d) True (wordR1 0b1010 d)

/-- The six multiplies (R220 to R225), each from the exact product of its operands' values. -/
def Obligations.MultiplyResult : Prop := ∀ (s : State) (d r : Reg),
  let u (x : Reg) : Int := (s.dev.reg x).toNat
  let t (x : Reg) : Int := (s.dev.reg x).toInt
  MulCase (.mul d r) s (u d * u r) 1 ∧ MulCase (.muls d r) s (t d * t r) 1 ∧ MulCase (.mulsu d r) s (t d * u r) 1 ∧
  MulCase (.fmul d r) s (u d * u r) 2 ∧ MulCase (.fmuls d r) s (t d * t r) 2 ∧ MulCase (.fmulsu d r) s (t d * u r) 2 ∧
  let three : Prop := (16 ≤ d.val ∧ d.val ≤ 23) ∧ 16 ≤ r.val ∧ r.val ≤ 23
  Form (.mul d r) True (wordRR 0b100111 d r) ∧
  Form (.muls d r) (16 ≤ d.val ∧ 16 ≤ r.val) (0x0200 + 16 * (d.val - 16) + (r.val - 16)) ∧
  Form (.mulsu d r) three (wordMul3 0x00 d r) ∧ Form (.fmul d r) three (wordMul3 0x08 d r) ∧
  Form (.fmuls d r) three (wordMul3 0x80 d r) ∧ Form (.fmulsu d r) three (wordMul3 0x88 d r)

/-! ### Bits -/

/-- LSR, ROR, ASR and SWAP (R360 to R363), by the values of the byte before and after. -/
def Obligations.ShiftResult : Prop := ∀ (s : State) (d : Reg),
  let a := s.dev.reg d
  ShiftCase (.lsr d) s d a (a.toNat / 2) ∧
  ShiftCase (.ror d) s d a (128 * carryNat s + a.toNat / 2) ∧
  ShiftCase (.asr d) s d a ((if 128 ≤ a.toNat then 128 else 0) + a.toNat / 2) ∧
  Completes (.swap d) s ((s.dev.setReg d (BitVec.ofNat 8 (16 * (a.toNat % 16) + a.toNat / 16))).past s.cfg 1 1) ∧
  Form (.lsr d) True (wordR1 0b0110 d) ∧ Form (.ror d) True (wordR1 0b0111 d) ∧
  Form (.asr d) True (wordR1 0b0101 d) ∧ Form (.swap d) True (wordR1 0b0010 d)

/-- BSET, BCLR, BST and BLD (R364, R365, R368, R369): one bit is written and every other bit is kept; BSET 7, and it
alone of these, leaves `inhibit` set (R414). -/
def Obligations.BitResult : Prop := ∀ (s : State) (d : Reg) (b : Fin 8),
  (∃ f, (∀ k < 8, bitOf f k = if k = b.val then true else bitOf s.dev.sreg k) ∧
    Completes (.bset b) s { (s.dev.setSreg f).past s.cfg 1 1 with inhibit := flag (b = 7) }) ∧
  (∃ f, (∀ k < 8, bitOf f k = if k = b.val then false else bitOf s.dev.sreg k) ∧
    Completes (.bclr b) s ((s.dev.setSreg f).past s.cfg 1 1)) ∧
  (∃ f, (∀ k < 8, bitOf f k = if k = 6 then bitOf (s.dev.reg d) b.val else bitOf s.dev.sreg k) ∧
    Completes (.bst d b) s ((s.dev.setSreg f).past s.cfg 1 1)) ∧
  (∃ v, (∀ k < 8, bitOf v k = if k = b.val then bitOf s.dev.sreg 6 else bitOf (s.dev.reg d) k) ∧
    Completes (.bld d b) s ((s.dev.setReg d v).past s.cfg 1 1))

/-- SBI and CBI (R366, R367, R92): on a claimed address one bit of the register is written, by its class: a storage
bit is set or cleared, a flag of TIFR0 is cleared by SBI alone, a PINx bit toggles PORTx by SBI alone; on an unclaimed
address the Device halts. -/
def Obligations.IoBitWrite : Prop := ∀ (s : State) (a : BitVec 5) (b : Fin 8),
  let one : Byte := BitVec.ofNat 8 (2 ^ b.val)
  let reg := ioReg (a.toNat + 0x20)
  let writes (i : Instr) (d : Device) : Prop := Completes i s (d.past s.cfg 1 2)
  (∀ p, reg = some (.ddr p) →
    writes (.sbi a b) (s.dev.setPortRegs p { s.dev.portRegs p with ddr := (s.dev.portRegs p).ddr ||| (one &&& p.pins) }) ∧
    writes (.cbi a b) (s.dev.setPortRegs p
      { s.dev.portRegs p with ddr := (s.dev.portRegs p).ddr &&& ~~~(one &&& p.pins) })) ∧
  (∀ p, reg = some (.port p) →
    writes (.sbi a b) (s.dev.setPortRegs p
      { s.dev.portRegs p with port := (s.dev.portRegs p).port ||| (one &&& p.pins) }) ∧
    writes (.cbi a b) (s.dev.setPortRegs p
      { s.dev.portRegs p with port := (s.dev.portRegs p).port &&& ~~~(one &&& p.pins) })) ∧
  (∀ p, reg = some (.pin p) →
    writes (.sbi a b) (s.dev.setPortRegs p
      { s.dev.portRegs p with port := (s.dev.portRegs p).port ^^^ (one &&& p.pins) }) ∧
    writes (.cbi a b) s.dev) ∧
  (reg = some .gpior0 →
    writes (.sbi a b) (s.dev.setCtl { s.dev.ctl with gpior0 := s.dev.ctl.gpior0 ||| one }) ∧
    writes (.cbi a b) (s.dev.setCtl { s.dev.ctl with gpior0 := s.dev.ctl.gpior0 &&& ~~~one })) ∧
  (reg = some .tifr0 →
    writes (.sbi a b) (s.dev.setTimer { s.dev.timer with tifr0 := s.dev.timer.tifr0 &&& ~~~(one &&& 0x07) }) ∧
    writes (.cbi a b) s.dev) ∧
  (reg = none →
    Halts (.sbi a b) s (.bus .write (a.toNat + 0x20)) ∧ Halts (.cbi a b) s (.bus .write (a.toNat + 0x20))) ∧
  (reg = none ∨ reg = some .gpior0 ∨ reg = some .tifr0 ∨
    ∃ p, reg = some (.ddr p) ∨ reg = some (.port p) ∨ reg = some (.pin p))

/-! ### Control flow -/

/-- RJMP, BRBS and BRBC (R252, R271, R272): the target wraps modulo M and never faults. -/
def Obligations.RelativeJumps : Prop := ∀ (s : State) (k : BitVec 12) (j : BitVec 7) (f : Fin 8),
  Completes (.rjmp k) s (s.dev.jumped (relative s k.toInt) 2) ∧
  Completes (.brbs f j) s
    (if bitOf s.dev.sreg f.val = true then s.dev.jumped (relative s j.toInt) 2 else s.dev.past s.cfg 1 1) ∧
  Completes (.brbc f j) s
    (if bitOf s.dev.sreg f.val = false then s.dev.jumped (relative s j.toInt) 2 else s.dev.past s.cfg 1 1)

/-- IJMP, EIJMP and JMP (R253 to R255): the target, and the bus fault of a target at or above M. -/
def Obligations.AbsoluteJumps : Prop := ∀ (s : State) (k : BitVec 22),
  Completes .ijmp s (s.dev.jumped (s.dev.ptr .z).toNat 2) ∧
  JumpCase .eijmp s (extended s) 2 ∧
  JumpCase (.jmp k) s k.toNat 3

/-- RCALL, ICALL, EICALL and CALL (R256 to R259, R251): every byte of SRAM after the call, and each fault; the
target's check comes before the stack's (R409). The premise on SRAM is an invariant (`StepKeepsCore`). -/
def Obligations.CallResult : Prop := ∀ (s : State) (k : BitVec 12) (t : BitVec 22),
  Memory.wf .sram s.dev.sram = true →
  let short := if s.cfg.pcBits = .w16 then 3 else 4
  CallCase (.rcall k) s 1 (relative s k.toInt) short ∧
  CallCase .icall s 1 (s.dev.ptr .z).toNat short ∧
  (extended s < s.cfg.pcModulus → CallCase .eicall s 1 (extended s) short) ∧
  (s.cfg.pcModulus ≤ extended s → Halts .eicall s (.bus .fetch (2 * extended s))) ∧
  (t.toNat < s.cfg.pcModulus → CallCase (.call t) s 2 t.toNat (short + 1)) ∧
  (s.cfg.pcModulus ≤ t.toNat → Halts (.call t) s (.bus .fetch (2 * t.toNat)))

/-- RET and RETI (R260, R261): pc from the stack, high byte first, SP up by `RA_BYTES`; RETI also sets SREG.I and
`inhibit`; a pop outside SRAM and a target at or above M halt the Device with nothing kept. -/
def Obligations.ReturnResult : Prop := ∀ s : State,
  let back := { s.dev.jumped (stackedRA s.cfg s.dev) (if s.cfg.pcBits = .w16 then 4 else 5) with
    sp := BitVec.ofNat 16 (s.dev.sp.toNat + s.cfg.pcBits.raBytes) }
  (popRoom s.cfg s.dev.sp → stackedRA s.cfg s.dev < s.cfg.pcModulus →
    Completes .ret s back ∧
    ∃ f, (∀ k < 8, bitOf f k = if k = 7 then true else bitOf s.dev.sreg k) ∧
      Completes .reti s { back with sreg := f, inhibit := true }) ∧
  (popRoom s.cfg s.dev.sp → s.cfg.pcModulus ≤ stackedRA s.cfg s.dev →
    Halts .ret s (.bus .fetch (2 * stackedRA s.cfg s.dev)) ∧
    Halts .reti s (.bus .fetch (2 * stackedRA s.cfg s.dev))) ∧
  (¬ popRoom s.cfg s.dev.sp →
    Halts .ret s (.stack .pop (popFaultAt s.dev.sp)) ∧ Halts .reti s (.stack .pop (popFaultAt s.dev.sp)))

/-- A call followed by RET comes back to the instruction after the call with SP, SREG and the registers as they were
(R251, R260, R99): the two agree on the order of the bytes. -/
def Obligations.CallThenReturn : Prop := ∀ (s t : State) (i : Instr) (k : BitVec 12) (x : BitVec 22),
  (i = .rcall k ∨ i = .icall ∨ i = .eicall ∨ i = .call x) → Memory.wf .sram s.dev.sram = true →
  exec i s = .next t → t.dev.isHalted = false →
  ∃ u, exec .ret t = .next u ∧ u.dev.isHalted = false ∧ u.dev.pc = nextPc s.cfg s.dev.pc i.words ∧
    u.dev.sp = s.dev.sp ∧ u.dev.regs = s.dev.regs ∧ u.dev.sreg = s.dev.sreg

/-- CPSE, SBRC and SBRS (R263, R267, R268, R262): one word passed, or the next instruction's one or two words too. -/
def Obligations.SkipResult : Prop := ∀ (s : State) (d r : Reg) (b : Fin 8),
  SkipCase (.cpse d r) s s.dev (s.dev.reg d = s.dev.reg r) ∧
  SkipCase (.sbrc r b) s s.dev (bitOf (s.dev.reg r) b.val = false) ∧
  SkipCase (.sbrs r b) s s.dev (bitOf (s.dev.reg r) b.val = true)

/-- SBIC and SBIS (R269, R270): the I/O read first, with its side effect, then the skip. -/
def Obligations.IoSkipResult : Prop := ∀ (s : State) (a : BitVec 5) (b : Fin 8),
  (∀ r, ioReg (a.toNat + 0x20) = some r →
    SkipCase (.sbic a b) s (s.dev.afterIoRead r) (bitOf (s.dev.ioValue r) b.val = false) ∧
    SkipCase (.sbis a b) s (s.dev.afterIoRead r) (bitOf (s.dev.ioValue r) b.val = true)) ∧
  (ioReg (a.toNat + 0x20) = none →
    Halts (.sbic a b) s (.bus .read (a.toNat + 0x20)) ∧ Halts (.sbis a b) s (.bus .read (a.toNat + 0x20)))

/-! ### Data transfer -/

/-- MOV, MOVW and LDI (R301 to R303). -/
def Obligations.MoveResult : Prop := ∀ (s : State) (d r : Reg) (k : Byte),
  Completes (.mov d r) s ((s.dev.setReg d (s.dev.reg r)).past s.cfg 1 1) ∧
  Completes (.movw d r) s
    (((s.dev.setReg d (s.dev.reg r)).setReg (d + 1) (s.dev.reg (r + 1))).past s.cfg 1 1) ∧
  Completes (.ldi d k) s ((s.dev.setReg d k).past s.cfg 1 1) ∧
  Form (.mov d r) True (wordRR 0b001011 d r) ∧
  Form (.movw d r) (d.val % 2 = 0 ∧ r.val % 2 = 0) (0x0100 + 16 * (d.val / 2) + r.val / 2) ∧
  Form (.ldi d k) (16 ≤ d.val) (wordRK 0b1110 d k)

/-- Every load from data space (R304 to R313): what is read in each region, the pointer's update, the bus fault. -/
def Obligations.LoadResult : Prop := ∀ (s : State) (d : Reg) (k : Word) (q : BitVec 6),
  let x := ptrInt s .x
  let y := ptrInt s .y
  let z := ptrInt s .z
  LoadCase (.lds d k) s d k id 2 ∧
  LoadCase (.ldX d) s d (dataAddr x) id 1 ∧
  LoadCase (.ldXInc d) s d (dataAddr x) (moveTo .x (x + 1)) 1 ∧
  LoadCase (.ldDecX d) s d (dataAddr (x - 1)) (moveTo .x (x - 1)) 1 ∧
  LoadCase (.ldY d) s d (dataAddr y) id 1 ∧
  LoadCase (.ldYInc d) s d (dataAddr y) (moveTo .y (y + 1)) 1 ∧
  LoadCase (.ldDecY d) s d (dataAddr (y - 1)) (moveTo .y (y - 1)) 1 ∧
  LoadCase (.lddY d q) s d (dataAddr (y + q.toNat)) id 1 ∧
  LoadCase (.ldZ d) s d (dataAddr z) id 1 ∧
  LoadCase (.ldZInc d) s d (dataAddr z) (moveTo .z (z + 1)) 1 ∧
  LoadCase (.ldDecZ d) s d (dataAddr (z - 1)) (moveTo .z (z - 1)) 1 ∧
  LoadCase (.lddZ d q) s d (dataAddr (z + q.toNat)) id 1

/-- Every store to data space (R314 to R323). That a pointer's update wins over a store to the pointer's own registers
is the model's reading of R316's corner case (log 12). -/
def Obligations.StoreResult : Prop := ∀ (s : State) (r : Reg) (k : Word) (q : BitVec 6),
  let x := ptrInt s .x
  let y := ptrInt s .y
  let z := ptrInt s .z
  StoreCase (.sts k r) s r k id 2 ∧
  StoreCase (.stX r) s r (dataAddr x) id 1 ∧
  StoreCase (.stXInc r) s r (dataAddr x) (moveTo .x (x + 1)) 1 ∧
  StoreCase (.stDecX r) s r (dataAddr (x - 1)) (moveTo .x (x - 1)) 1 ∧
  StoreCase (.stY r) s r (dataAddr y) id 1 ∧
  StoreCase (.stYInc r) s r (dataAddr y) (moveTo .y (y + 1)) 1 ∧
  StoreCase (.stDecY r) s r (dataAddr (y - 1)) (moveTo .y (y - 1)) 1 ∧
  StoreCase (.stdY q r) s r (dataAddr (y + q.toNat)) id 1 ∧
  StoreCase (.stZ r) s r (dataAddr z) id 1 ∧
  StoreCase (.stZInc r) s r (dataAddr z) (moveTo .z (z + 1)) 1 ∧
  StoreCase (.stDecZ r) s r (dataAddr (z - 1)) (moveTo .z (z - 1)) 1 ∧
  StoreCase (.stdZ q r) s r (dataAddr (z + q.toNat)) id 1

/-- LPM, ELPM and SPM (R330 to R337): the program byte read, the address's update, the bus faults; SPM always halts
the Device, with the address R337 gives (log 13). -/
def Obligations.ProgramMemoryAccess : Prop := ∀ (s : State) (d : Reg),
  let z := (s.dev.ptr .z).toNat
  let e := elpmAddr s
  ProgLoadCase .lpm s 0 z id ∧ ProgLoadCase (.lpmZ d) s d z id ∧
  ProgLoadCase (.lpmZInc d) s d z (moveTo .z (z + 1)) ∧
  ProgLoadCase .elpm s 0 e id ∧ ProgLoadCase (.elpmZ d) s d e id ∧
  ProgLoadCase (.elpmZInc d) s d e (elpmMoved ((e + 1) % 262144)) ∧
  Halts .spm s (.bus .writeProg e)

/-- IN and OUT (R338, R339): the register at A + 0x20 is read or written whole; an unclaimed address, or a write the
spec refuses, halts the Device. Beside them, what a read of each register does and UCSR0A's bits (R94, R490, R491);
what a write does is `IoReadBack`. -/
def Obligations.InOutResult : Prop := ∀ (s : State) (d : Reg) (a : BitVec 6),
  (∀ r, ioReg (a.toNat + 0x20) = some r →
    Completes (.ioIn d a) s (((s.dev.afterIoRead r).setReg d (s.dev.ioValue r)).past s.cfg 1 1) ∧
    (∀ x, s.dev.ioStore (s.dev.reg d) 0xFF r = .ok x → Completes (.ioOut a d) s (x.past s.cfg 1 1)) ∧
    (∀ e, s.dev.ioStore (s.dev.reg d) 0xFF r = .error e → Halts (.ioOut a d) s e)) ∧
  (ioReg (a.toNat + 0x20) = none →
    Halts (.ioIn d a) s (.bus .read (a.toNat + 0x20)) ∧ Halts (.ioOut a d) s (.bus .write (a.toNat + 0x20))) ∧
  ReadEffect s.dev ∧ Ucsr0aBits s.dev

/-- What a whole write of a register leaves (R92, R95): plain storage reads back the value in its implemented bits
and disturbs no other register; PINx toggles PORTx (R53, R515); Timer0's and USART0's registers have their side
effects (R466, R468, R453, R486, R492). The premise on reserved bits is an invariant (`StepKeepsUnits`). -/
def Obligations.IoReadBack : Prop := ∀ (d : Device) (v : Byte),
  PlainWrite d v ∧ TimerWrite d v ∧ UsartWrite d v ∧
  ∀ p, ∃ f, (∀ k : Fin 8, bitOf f k.val =
      (bitOf (d.portRegs p).port k.val ^^ (bitOf v k.val && p.hasPin k))) ∧
    d.ioStore v 0xFF (.pin p) = .ok (d.setPortRegs p { d.portRegs p with port := f })

/-- PUSH and POP (R340, R341): the address is checked, then used; SP moves by one. -/
def Obligations.PushPop : Prop := ∀ (s : State) (r : Reg),
  let sp := s.dev.sp.toNat
  let up := (sp + 1) % 65536
  (0x200 ≤ sp ∧ sp ≤ 0x21FF →
    Completes (.push r) s (((s.dev.setSramByte sp (s.dev.reg r)).setSp (BitVec.ofNat 16 (sp - 1))).past s.cfg 1 2)) ∧
  (sp < 0x200 ∨ 0x21FF < sp → Halts (.push r) s (.stack .push s.dev.sp)) ∧
  (0x200 ≤ up ∧ up ≤ 0x21FF →
    Completes (.pop r) s (((s.dev.setSp (BitVec.ofNat 16 up)).setReg r (s.dev.sramByte up)).past s.cfg 1 2)) ∧
  (up < 0x200 ∨ 0x21FF < up → Halts (.pop r) s (.stack .pop (BitVec.ofNat 16 up)))

/-! ### MCU control -/

/-- NOP, WDR, BREAK and SLEEP (R390 to R393): SLEEP by SMCR.SE and SMCR.SM. The words of NOP and BREAK are those of
their rules. -/
def Obligations.McuControl : Prop := ∀ s : State,
  let smcr := s.dev.ctl.smcr.toNat
  Completes .nop s (s.dev.past s.cfg 1 1) ∧ Completes .wdr s (s.dev.past s.cfg 1 1) ∧
  Completes .brk s (s.dev.past s.cfg 1 1) ∧
  (∀ w, decodeWords 0x0000 w = some .nop ∧ decodeWords 0x9598 w = some .brk) ∧
  (smcr % 2 = 0 → Completes .sleep s (s.dev.past s.cfg 1 1)) ∧
  (smcr % 16 = 1 → Completes .sleep s { s.dev.past s.cfg 1 1 with mode := .sleeping }) ∧
  (smcr % 2 = 1 → smcr / 2 % 8 ≠ 0 → Halts .sleep s (.unmodelled (.sleepMode (BitVec.ofNat 3 (smcr / 2)))))

/-! ### Frames -/

/-- No instruction changes a general register other than its destinations, the pair its addressing mode updates, and
the register a store below 0x20 names. -/
def Obligations.RegisterFrame : Prop := ∀ (i : Instr) (s t : State) (r : Reg),
  exec i s = .next t → r ∉ Instr.writtenRegs s.cfg s.dev i → t.dev.reg r = s.dev.reg r

/-- No instruction changes a bit of SREG that is not among the flags of its rule, unless it writes data address 0x5F,
where SREG is (R202, R300). -/
def Obligations.FlagFrame : Prop := ∀ (i : Instr) (s t : State) (k : Nat),
  exec i s = .next t → bitOf (Instr.flagMask i) k = false → Instr.writesData s.cfg s.dev i 0x5F = false →
  bitOf t.dev.sreg k = bitOf s.dev.sreg k

/-- No instruction changes a byte of SRAM other than those it stores to, at the addresses its meaning computes; and
none changes program memory (R86, R89, R96). -/
def Obligations.MemoryFrame : Prop := ∀ (i : Instr) (s t : State) (a : Nat),
  exec i s = .next t → Memory.wf .sram s.dev.sram = true →
  a ∉ (Instr.access s.cfg s.dev i).stored s.dev.sp → t.dev.sramByte a = s.dev.sramByte a ∧ t.dev.prog = s.dev.prog

/-- No instruction changes Timer0, USART0 or a port unless it accesses a register of that unit, a control register
unless it accesses that register (RAMPZ also by ELPM Rd, Z+), or SP unless it accesses SPL or SPH, pushes or pops; no
instruction whatever changes a `fired` latch. -/
def Obligations.SpecialFrame : Prop := ∀ (i : Instr) (s t : State), exec i s = .next t →
  let access := Instr.access s.cfg s.dev i
  let unit := access.target.map IoReg.unit
  t.dev.fired25 = s.dev.fired25 ∧ t.dev.fired26 = s.dev.fired26 ∧
  (unit ≠ some .timer → t.dev.timer = s.dev.timer) ∧
  (unit ≠ some .usart → t.dev.usart = s.dev.usart) ∧
  (∀ p, unit ≠ some (.port p) → t.dev.portRegs p = s.dev.portRegs p) ∧
  (access.target ≠ some .eind → t.dev.ctl.eind = s.dev.ctl.eind) ∧
  (access.target ≠ some .smcr → t.dev.ctl.smcr = s.dev.ctl.smcr) ∧
  (access.target ≠ some .mcucr → t.dev.ctl.mcucr = s.dev.ctl.mcucr) ∧
  (access.target ≠ some .gpior0 → t.dev.ctl.gpior0 = s.dev.ctl.gpior0) ∧
  (access.target ≠ some .gpior1 → t.dev.ctl.gpior1 = s.dev.ctl.gpior1) ∧
  (access.target ≠ some .gpior2 → t.dev.ctl.gpior2 = s.dev.ctl.gpior2) ∧
  (access.target ≠ some .rampz → (∀ d, i ≠ .elpmZInc d) → t.dev.ctl.rampz = s.dev.ctl.rampz) ∧
  (access.target ≠ some .spl → access.target ≠ some .sph → (∀ n, access ≠ .push n ∧ access ≠ .pop n) →
    t.dev.sp = s.dev.sp)

/-! ### Faults, interrupts and sleep -/

/-- Every instruction, on every state and operands, answers a next state that differs in the Device under study alone:
no meaning refuses, none stops the run, and none touches another Device, a wire, a terminal or the trace (R400,
R427). -/
def Obligations.ExecAnswersNext : Prop := ∀ (i : Instr) (s : State), ∃ d, exec i s = .next { s with dev := d }

/-- An instruction that halts a running Device leaves everything of it but its mode as it was, T too, and records the
Device's name, the pc of the instruction and T (R400, R401). -/
def Obligations.FaultKeepsState : Prop := ∀ (i : Instr) (s t : State) (r : FaultRecord),
  s.dev.mode = .running → exec i s = .next t → t.dev.mode = .halted r →
  t = { s with dev := { s.dev with mode := .halted r } } ∧ r.device = s.dev.name ∧ r.pc = s.dev.pc ∧
    r.time = s.dev.time

/-- The vectoring sequence (R416, R424), taken by a running Device with `inhibit` clear or by a sleeping one: pc is
pushed, SREG.I alone is cleared, the source is acknowledged, pc becomes 2n, at 4 or 5 cycles (8 or 10 from sleep); a
push outside SRAM halts the Device. The premise on SRAM is an invariant (`StepKeepsCore`). -/
def Obligations.TakeVector : Prop := ∀ (s : State) (v : Vec),
  (s.dev.mode = .running ∧ s.dev.inhibit = false ∨ s.dev.mode = .sleeping) → s.dev.iFlag = true →
  s.dev.eligible = some v → Memory.wf .sram s.dev.sram = true →
  let cost := if s.cfg.pcBits = .w16 then 4 else 5
  (pushRoom s.cfg s.dev.sp → ∃ t, s.act = .next t ∧ t = { s with dev := t.dev } ∧
    t.dev.pc.toNat = 2 * v.number ∧
    (∀ k < 8, bitOf t.dev.sreg k = if k = 7 then false else bitOf s.dev.sreg k) ∧
    t.dev.sp.toNat + s.cfg.pcBits.raBytes = s.dev.sp.toNat ∧ Pushed s.cfg s.dev t.dev s.dev.pc.toNat ∧
    (∀ w, t.dev.vecFlag w = if w = v ∧ v ≠ .usart0Rx ∧ v ≠ .usart0Udre then false else s.dev.vecFlag w) ∧
    t.dev.fired25 = (s.dev.fired25 || flag (v = .usart0Rx)) ∧ t.dev.fired26 = (s.dev.fired26 || flag (v = .usart0Udre)) ∧
    t.dev.mode = .running ∧
    t.dev.time = s.dev.time + (if s.dev.mode = .sleeping then 2 * cost else cost) ∧
    t.dev.regs = s.dev.regs ∧ t.dev.ctl = s.dev.ctl ∧ t.dev.ports = s.dev.ports ∧ t.dev.prog = s.dev.prog ∧
    t.dev.inhibit = s.dev.inhibit) ∧
  (¬ pushRoom s.cfg s.dev.sp → HaltsAt s s.act (.stack .push (pushFaultAt s.dev.sp)))

/-- The vector taken is the pending and enabled one of the lowest number, and there is one to take as soon as any is
pending and enabled (R412). -/
def Obligations.VectorPriority : Prop := ∀ (d : Device),
  (∀ v, d.eligible = some v → d.vecPending v = true ∧ d.vecEnabled v = true ∧
    ∀ w, w.number < v.number → (d.vecPending w && d.vecEnabled w) = false) ∧
  (∀ w, (d.vecPending w && d.vecEnabled w) = true → ∃ v, d.eligible = some v ∧ v.number ≤ w.number)

/-- Which step a Device starts at its boundary when no vector is taken (R417, R424): a running one executes the
instruction at pc when `inhibit` is set, when SREG.I is clear or when nothing is eligible; a sleeping one idles one
cycle when SREG.I is clear or nothing is eligible; a halted one does nothing. -/
def Obligations.BoundaryChoice : Prop := ∀ s : State,
  (s.dev.mode = .running → (s.dev.inhibit = true ∨ s.dev.iFlag = false ∨ s.dev.eligible = none) → s.act = s.runInstr) ∧
  (s.dev.mode = .sleeping → (s.dev.iFlag = false ∨ s.dev.eligible = none) →
    s.act = .next { s with dev := { s.dev with time := s.dev.time + 1 } }) ∧
  (s.dev.isHalted = true → s.act = .next s) ∧
  (∀ t, exec (.bset 7) s = .next t → t.dev.inhibit = true ∧ t.dev.iFlag = true) ∧
  (∀ t, exec .reti s = .next t → t.dev.mode = .running → t.dev.inhibit = true ∧ t.dev.iFlag = true)

/-! ### Steps -/

/-- A step runs the decoded instruction: when the bytes at pc decode to i, step is `exec i`, then the `fired` latches'
update (R413), then the rest of the cycle (R530). -/
def Obligations.StepRunsInstruction : Prop := ∀ (s t : State) (i : Instr) (rest : List Byte),
  s.isOver = false → s.dev.mode = .running → s.dev.time = s.cycle →
  (s.dev.inhibit = true ∨ s.dev.iFlag = false ∨ s.dev.eligible = none) →
  let w := s.dev.pc.toNat
  let w2 := (nextPc s.cfg s.dev.pc 1).toNat
  decode [s.dev.progByte (2 * w), s.dev.progByte (2 * w + 1), s.dev.progByte (2 * w2), s.dev.progByte (2 * w2 + 1)]
    = .ok (i, rest) →
  2 * w + 1 < s.cfg.progBytes → (i.words = 2 → 2 * w2 + 1 < s.cfg.progBytes) →
  exec i s = .next t →
  step s = .next (State.finishCycle { t with dev := t.dev.settle })

/-- The faults on the way to an instruction, in R409's order: pc beyond program memory; a first word of no row; a
second word beyond program memory. -/
def Obligations.FetchFaults : Prop := ∀ s : State,
  let halts (e : FaultDetail) : Prop := HaltsAt s s.runInstr e
  let w := s.dev.pc.toNat
  let w2 := (nextPc s.cfg s.dev.pc 1).toNat
  let w1 := s.dev.progByte (2 * w + 1) ++ s.dev.progByte (2 * w)
  (s.cfg.progBytes ≤ 2 * w + 1 → halts (.bus .fetch (2 * w))) ∧
  (2 * w + 1 < s.cfg.progBytes → (∀ x, decodeWords w1 x = none) → halts (.decode w1)) ∧
  (2 * w + 1 < s.cfg.progBytes → (∃ i, decodeWords w1 0 = some i ∧ i.words = 2) → s.cfg.progBytes ≤ 2 * w2 + 1 →
    halts (.bus .fetch (2 * w2)))

/-- A halted Device is frozen, and its siblings are not: nothing of it changes in a step, whether it is the Device
under study or another (R400). -/
def Obligations.HaltedFrozen : Prop := ∀ s t : State, step s = .next t →
  (s.dev.isHalted = true → t.dev = s.dev) ∧
  (∀ (j : Nat) (d : Device), s.siblings[j]? = some d → d.isHalted = true → t.siblings[j]? = some d)

/-- One step is one cycle of all Devices together, and it changes nothing the build fixed: the parameters, the wires'
ends, policies and delays, the terminals' rates and send lists, the indicators, the traced signals, the trace's
scale, the Devices' names (R10, R521, R530, R532, R542, R549, R550). A Device between two boundaries of its own,
under study or a sibling, keeps its pc, registers, SREG, SP and SRAM. -/
def Obligations.LockStep : Prop := ∀ s t : State, step s = .next t →
  t.cycle = s.cycle + 1 ∧ t.cfg = s.cfg ∧ t.stopCycle = s.stopCycle ∧
  t.wires.map (fun w => (w.a, w.b, w.policy, w.delay)) = s.wires.map (fun w => (w.a, w.b, w.policy, w.delay)) ∧
  t.terminals.map (fun v => (v.name, v.bitCycles, v.sends)) = s.terminals.map (fun v => (v.name, v.bitCycles, v.sends)) ∧
  t.indicators = s.indicators ∧
  t.signals.map (fun g => (g.name, g.endpoint)) = s.signals.map (fun g => (g.name, g.endpoint)) ∧
  t.timescale = s.timescale ∧ t.unitsPerCycle = s.unitsPerCycle ∧
  t.dev.name = s.dev.name ∧ t.siblings.map (·.name) = s.siblings.map (·.name) ∧
  (s.dev.time ≠ s.cycle → SameCore s.dev t.dev) ∧
  ∀ (j : Nat) (d : Device), s.siblings[j]? = some d → d.time ≠ s.cycle →
    ∃ e, t.siblings[j]? = some e ∧ SameCore d e

/-- The run processes the cycles before `STOP_CYCLE` and nothing at or after it (R542). What `step` answers then is
the model's choice (log 11). -/
def Obligations.StopCycle : Prop := ∀ (s : State) (stop : Nat), s.stopCycle = some stop →
  (stop ≤ s.cycle → step s = .fault .runOver) ∧ (s.cycle < stop → ∃ t, step s = .next t)

/-- Program memory never changes during a run, in any Device (R83, R106). -/
def Obligations.ProgramConstant : Prop := ∀ s t : State, step s = .next t →
  t.dev.prog = s.dev.prog ∧ t.siblings.map (·.prog) = s.siblings.map (·.prog)

/-! ### Encoding -/

/-- Decoding the bytes of a well-formed instruction gives it back, with whatever follows left over: no bit of an
encoding is dropped (R100, R120 to R138). -/
def Obligations.DecodeOfEncode : Prop := ∀ (i : Instr) (rest : List Byte),
  i.WellFormed = true → decode (encodeBytes i ++ rest) = .ok (i, rest)

/-- Every word that decodes does so to a well-formed instruction whose encoding is that word, so that no two words
mean the same and an undefined form (R141) never decodes. -/
def Obligations.EncodeOfDecode : Prop := ∀ (w1 w2 : Word) (i : Instr), decodeWords w1 w2 = some i →
  i.WellFormed = true ∧ encode i = if i.words = 2 then [w1, w2] else [w1]

/-- A few words written out from the encodings of 30_encoding.md, one or more of each family, and words of no row. -/
def Obligations.DecodeSamples : Prop :=
  decodeWords 0b0000111100000001 0 = some (.add 16 17) ∧
  decodeWords 0b1001011011011111 0 = some (.adiw 26 0x3F) ∧
  decodeWords 0b0000001100001001 0 = some (.fmul 16 17) ∧
  decodeWords 0b1100111111111111 0 = some (.rjmp (-1)) ∧
  decodeWords 0b1001010100001111 0b0000000000000001 = some (.call 0x210001) ∧
  decodeWords 0b1111010110000001 0 = some (.brbc 1 0b0110000) ∧
  decodeWords 0b1010110111111111 0 = some (.lddY 31 0x3F) ∧
  decodeWords 0b1001001100000000 0x21FF = some (.sts 0x21FF 16) ∧
  decodeWords 0b1011111100001110 0 = some (.ioOut 0x3E 16) ∧
  decodeWords 0b1001101000011111 0 = some (.sbi 3 7) ∧
  decodeWords 0b1111101100000111 0 = some (.bst 16 7) ∧
  decodeWords 0b1001010110001000 0 = some .sleep ∧
  decodeWords 0x0001 0 = none ∧ decodeWords 0xFFFF 0 = none ∧ decodeWords 0x91AD 0 = none ∧
  decodeWords 0x95F8 0 = none ∧ decodeWords 0xFF08 0 = none

/-! ### Reset, build and invariants -/

/-- What the spec gives the machine at reset (R601, R602); the registers and SRAM are draws there and are not among
these (logs 3 and 4). -/
def Obligations.ResetState : Prop :=
  let d := State.reset.dev
  d.sreg = 0 ∧ d.pc = 0 ∧ d.sp = 0x21FF ∧ d.ctl = ⟨0, 0, 0, 0, 0, 0, 0⟩ ∧
  d.timer = ⟨0, 0, 0, 0, 0, 0, 0, false, false, false, 0, 0⟩ ∧
  d.usart.ucsr0a = 0x20 ∧ d.usart.ucsr0b = 0 ∧ d.usart.ucsr0c = 0x06 ∧ d.usart.ubrr0 = 0 ∧ d.usart.tx = .idle ∧
  d.usart.rx = .idle ∧ d.usart.rxPrev = false ∧ d.usart.rxBuf = 0 ∧
  (∀ p n, d.pinDrive p n = .float ∧ (d.portRegs p).sync1[n] = .z ∧ (d.portRegs p).sync2[n] = .z) ∧
  d.fired25 = false ∧ d.fired26 = false ∧ d.inhibit = false ∧ d.mode = .running ∧ d.time = 0 ∧
  (∀ a, d.progByte a = 0xFF)

/-- A valid topology starts every Device at reset with its image at program byte 0 and 0xFF beyond it, at cycle 0; an
image longer than `PROG_BYTES` is rejected (R83, R549, R601, R604). The registers and SRAM of a Device at reset are
the model's choice (logs 3 and 4). -/
def Obligations.BuildStarts : Prop := ∀ t : Topology,
  (∀ s, t.build = .ok s → s.cycle = 0 ∧ s.cfg = t.cfg ∧ s.trace = [] ∧ s.wires.length = t.wires.length ∧
    (∀ (j : Nat) (x : DeviceSpec), t.devices[j]? = some x → ∃ d, s.device j = some d ∧
      d = Device.reset x.name d.prog ∧ ∀ a, d.progByte a = x.image.getD a 0xFF)) ∧
  ((∃ x ∈ t.devices, t.cfg.progBytes < x.image.length) → ∃ f, t.build = .error f)

/-- The reset state meets every invariant. -/
def Obligations.ResetInvariants : Prop := State.reset.CoreInv ∧ State.reset.UnitInv ∧ State.reset.RecordInv

/-- Every step keeps the memories canonical and in range, pc in range, T not behind the run, and each fault record
true, for every Device (R37, R54, R83, R401, R530). -/
def Obligations.StepKeepsCore : Prop := ∀ s t : State, s.CoreInv → step s = .next t → t.CoreInv

/-- Every step keeps every Device's peripherals legal: reserved bits 0, Timer0 and USART0 in modelled configurations,
no compare value left behind in a non-PWM mode, shift registers in range, a `fired` latch only with its flag,
`inhibit` only with SREG.I (R40 to R58, R405, R413, R414, R453, R469, R481). -/
def Obligations.StepKeepsUnits : Prop := ∀ s t : State, s.UnitInv → step s = .next t → t.UnitInv

/-- Every step keeps the wires' histories as long as the run and the delay allow and the trace ordered, and puts this
cycle's drives, those after every Device's boundary, at the head of both histories of each wire (R520, R530 steps 1
and 2, R551). -/
def Obligations.StepKeepsRecords : Prop := ∀ s t : State, s.RecordInv → step s = .next t → t.RecordInv ∧
  ∃ b, s.boundary = .next b ∧
    let drive := State.drive { b with siblings := b.siblings.map b.siblingBoundary }
    t.wires = s.wires.map fun w => { w with
      histA := Wire.push w.delay s.cycle w.histA (drive w.a), histB := Wire.push w.delay s.cycle w.histB (drive w.b) }

/-- Unwired Devices are independent: where no wire exists, what a step makes of the Device under study is the same
whatever the other Devices, terminals, signals and traces are (R534, R533), given the same draws (log 8). -/
def Obligations.UnwiredIsolation : Prop := ∀ s s' t t' : State,
  s.wires = [] → s'.wires = [] → s.cfg = s'.cfg → s.cycle = s'.cycle → s.dev = s'.dev →
  step s = .next t → step s' = .next t' → t.dev = t'.dev

/-! ### Peripherals -/

/-- Timer0 in Normal mode (R460 to R462): over m cycles from cycle k it ticks once for each multiple of N in
(k, k + m], and TOV0 is set by the step from 0xFF to 0x00. -/
def Obligations.TimerPrescaled : Prop := ∀ (t : Timer0) (k m n : Nat),
  t.waveMode = .normal → t.divisor = some n →
  let ticks := (k + m) / n - k / n
  (t.advanceN k m).tcnt0.toNat = (t.tcnt0.toNat + ticks) % 256 ∧
  bitOf (t.advanceN k m).tifr0 0 = (bitOf t.tifr0 0 || flag (256 ≤ t.tcnt0.toNat + ticks))

/-- Timer0 in CTC mode (R463): from a count of 0 the period is OCR0A + 1 ticks, OCF0A is set in the tick that ends it,
and TOV0 only if OCR0A is 0xFF. -/
def Obligations.CtcPeriod : Prop := ∀ (t : Timer0) (k m : Nat),
  t.waveMode = .ctc → t.divisor = some 1 → t.tcnt0 = 0 → t.block = false →
  let top := t.ocr0a.toNat
  (t.advanceN k m).tcnt0.toNat = m % (top + 1) ∧
  bitOf (t.advanceN k m).tifr0 1 = (bitOf t.tifr0 1 || flag (top + 1 ≤ m)) ∧
  bitOf (t.advanceN k m).tifr0 0 = (bitOf t.tifr0 0 || flag (top = 255 ∧ 256 ≤ m))

/-- Timer0 in fast PWM with TOP 0xFF, non-inverting output (R464, R470): within a period from BOTTOM the output is
high for OCR0A + 1 counts, low after them, and high again at BOTTOM; TOV0 is set by the tick that leaves TOP. -/
def Obligations.FastPwmPeriod : Prop := ∀ (t : Timer0) (k m : Nat),
  t.waveMode = .fastPwmFF → t.divisor = some 1 → t.com .a = 2 → t.tcnt0 = 0 → t.block = false → t.oc0a = true →
  m ≤ 256 →
  (t.advanceN k m).tcnt0.toNat = m % 256 ∧
  (t.advanceN k m).oc0a = flag (m ≤ t.ocr0a.toNat ∨ m = 256) ∧
  bitOf (t.advanceN k m).tifr0 0 = (bitOf t.tifr0 0 || flag (m = 256))

/-- A byte written to UDR0 of an enabled, idle transmitter occupies its pin for ten bit periods (R486, R487): start
bit, data bits from the least significant, stop bit; then TXC0 is set and the transmitter is idle. A virtual terminal
puts each byte of its send list on its line in the same shape from s_i = max(c_i, s_(i-1) + 10B) on, and drives 1 in
every cycle outside a frame (R546). -/
def Obligations.TransmitFrame : Prop :=
  (∀ (u : Usart0) (v : Byte), u.txen = true → u.tx = .idle →
    (∀ n < 10 * u.bitPeriod, ((u.writeUdr0 v).txTicks n).txBit = frameLine u.bitPeriod v n) ∧
    (∀ n < 10 * u.bitPeriod, ((u.writeUdr0 v).txTicks n).udre = false) ∧
    ((u.writeUdr0 v).txTicks (10 * u.bitPeriod)).tx = .idle ∧
    ((u.writeUdr0 v).txTicks (10 * u.bitPeriod)).txc = true) ∧
  ∀ v : Terminal,
    let start := Terminal.frameStart v.bitCycles v.sends
    (∀ (i c : Nat) (b : Byte), v.sends[i]? = some (c, b) → ∀ n < 10 * v.bitCycles,
      v.txDrive (start i + n) = .strong (frameLine v.bitCycles b n)) ∧
    (∀ k, (∀ i < v.sends.length, k < start i ∨ start i + 10 * v.bitCycles ≤ k) → v.txDrive k = .strong true)

/-- Serial loopback (R489, R488, R493), the source's property: a byte written to an idle transmitter, its line sampled
in the same cycles by an idle receiver of the same bit period D, is in the receiver's buffer with all eight bits intact
and RXC0 set after floor(D/2) + 9D + 1 ticks, and not one tick earlier; no error flag is set. Over an unread byte it
sets DOR0 instead and that byte stays. A virtual terminal's receiver puts the byte in its output list with the cycle
of its stop sample, at that tick (R547). On a line that stays at 0 each reports a frame error then, and no byte
(R494, R547). -/
def Obligations.SerialLoopback : Prop := ∀ (u r : Usart0) (x : Terminal) (k : Nat) (v : Byte),
  u.txen = true → u.tx = .idle → r.rxen = true → r.rx = .idle → r.rxPrev = true → r.bitPeriod = u.bitPeriod →
  x.rx = .idle → x.rxPrev = true → x.bitCycles = u.bitPeriod →
  let line := fun n => ((u.writeUdr0 v).txTicks n).txBit
  let low := fun _ => false
  let n := u.bitPeriod / 2 + 9 * u.bitPeriod
  let got := r.rxTicks line (n + 1)
  let failed := r.rxTicks low (n + 1)
  (r.rxc = false → (r.rxTicks line n).rxc = false ∧ got.rxc = true ∧ got.rxBuf = v ∧ got.dor = r.dor) ∧
  (r.rxc = true → (r.rxTicks line n).dor = r.dor ∧ got.rxc = true ∧ got.rxBuf = r.rxBuf ∧ got.dor = true) ∧
  got.fe = r.fe ∧ got.rx = .idle ∧
  (r.rxTicks low n).fe = r.fe ∧ failed.fe = true ∧ failed.rxc = r.rxc ∧ failed.rxBuf = r.rxBuf ∧
  failed.dor = r.dor ∧ failed.rx = .idle ∧
  (x.rxTicks k line n).output = x.output ∧ (x.rxTicks k line (n + 1)).output = x.output ++ [.byte v (k + n)] ∧
  (x.rxTicks k low n).output = x.output ∧ (x.rxTicks k low (n + 1)).output = x.output ++ [.frameError (k + n)]

/-- A write that would run Timer0 or USART0 in a configuration the spec does not model, or move the vector table, is
refused exactly then (R43, R469, R481); the values are those the write would leave. -/
def Obligations.ConfigRefused : Prop := ∀ (d : Device) (v : Byte),
  let refused (r : IoReg) : Prop := ∃ u, d.ioStore v 0xFF r = .error (.unmodelled u)
  let bad (a b : Byte) : Prop :=
    let cs := b.toNat % 8
    6 ≤ cs ∨ (cs ≠ 0 ∧ wgmOf a b ∈ [1, 4, 5, 6]) ∨ (cs ≠ 0 ∧ wgmOf a b ∈ [3, 7] ∧ a.toNat / 16 % 4 = 1)
  let odd (b c : Nat) (mpcm : Bool) : Prop :=
    (b / 8 % 4 ≠ 0) ∧ ¬ (c / 2 = 3 ∧ b / 4 % 2 = 0 ∧ mpcm = false)
  (refused .mcucr ↔ v.toNat / 2 % 2 = 1) ∧
  (refused .tccr0a ↔ bad v d.timer.tccr0b) ∧
  (refused .tccr0b ↔ bad d.timer.tccr0a v) ∧
  (refused .ucsr0a ↔ odd d.usart.ucsr0b.toNat d.usart.ucsr0c.toNat (flag (v.toNat % 2 = 1))) ∧
  (refused .ucsr0b ↔ odd v.toNat d.usart.ucsr0c.toNat d.usart.mpcm) ∧
  (refused .ucsr0c ↔ odd d.usart.ucsr0b.toNat v.toNat d.usart.mpcm)

/-! ### Pins, wires and the trace -/

/-- What every pin drives (R511, R483, R470, R512) and what V.rx and an indicator drive (R517, R547); the level of an
endpoint (R513, R520); and a PIN read sees a pin's level two cycles late (R514): after the ticks of two cycles it
gives the level of the first of them, whatever the second's; the bits of absent pins read 0 (R52). -/
def Obligations.PinReadDelay : Prop :=
  (∀ d : Device, PinMultiplexer d) ∧
  (∀ (s : State) (e : Endpoint) (i : Nat), EndpointLevel s e ∧ s.drive (.termRx i) = .float ∧
    s.drive (.indicator i) = .float ∧ ∀ d p n, s.device i = some d → s.drive (.pin i p n) = d.pinDrive p n) ∧
  ∀ (d : Device) (k : Nat) (early late : PortName → Fin 8 → Level) (p : PortName) (n : Fin 8), d.isHalted = false →
    let seen := bitOf (((d.tick k early).tick (k + 1) late).ioValue (.pin p)) n.val
    (p.hasPin n = true → early p n = .one → seen = true) ∧ (p.hasPin n = true → early p n = .zero → seen = false) ∧
    (p.hasPin n = false → seen = false)

/-- The two conflict policies (R522, R523), for every pair of drives and change cycles. -/
def Obligations.WireResolution : Prop := ∀ (a b : Sample) (p q : Bool) (x : Drive),
  (∀ pol, a.drive = .strong p → b.drive = .strong p → Wire.resolve pol a b = Level.ofBool p) ∧
  (a.drive = .strong p → b.drive = .strong q → Wire.resolve .or a b = Level.ofBool (p || q)) ∧
  (a.drive = .strong p → b.drive = .strong q → p ≠ q →
    Wire.resolve .lastWriter a b = Level.ofBool (if b.chg < a.chg then p else q)) ∧
  (∀ pol, a.drive = .strong p → (∀ q, b.drive ≠ .strong q) → Wire.resolve pol a b = Level.ofBool p) ∧
  (∀ pol, b.drive = .strong q → (∀ p, a.drive ≠ .strong p) → Wire.resolve pol a b = Level.ofBool q) ∧
  (∀ pol, x ≠ .strong true → x ≠ .strong false → (a.drive = .pullUp ∧ b.drive = x ∨ a.drive = x ∧ b.drive = .pullUp) →
    Wire.resolve pol a b = .one) ∧
  (∀ pol, a.drive = .float → b.drive = .float → Wire.resolve pol a b = .z)

/-- A wire's history gives each end its own drive at once and the other's d cycles late, Float before cycle 0, and the
change cycle is the last one at which the drive changed (R520, R540). -/
def Obligations.WireDelay : Prop := ∀ (delay : Nat) (drive : Nat → Drive) (n : Nat),
  let h := Wire.history delay drive (n + 1)
  let before (j : Nat) : Drive := if j = 0 then .float else drive (j - 1)
  (Wire.near h).drive = drive n ∧
  (Wire.far delay h).drive = (if delay ≤ n then drive (n - delay) else .float) ∧
  (∀ j, (Wire.near h).chg < j → j ≤ n → drive j = before j) ∧
  (drive n ≠ .float → drive (Wire.near h).chg ≠ before (Wire.near h).chg ∧ (Wire.near h).chg ≤ n) ∧
  (delay ≤ n → drive (n - delay) ≠ .float →
    ∃ c, (Wire.far delay h).chg = c + delay ∧ drive c ≠ before c ∧ c ≤ n - delay ∧
      ∀ j, c < j → j ≤ n - delay → drive j = before j)

/-- The trace grows in a step by exactly one event for each signal whose level in this cycle differs from the last one
recorded, or that has none yet, with its cycle and level, in index order, and by no other; the level is remembered
(R551); the levels are those the drives after every Device's boundary give (R530 steps 1 to 3 and 5). -/
def Obligations.TraceRecords : Prop := ∀ s b t : State, s.boundary = .next b → step s = .next t →
  let level := (State.recordDrives { b with siblings := b.siblings.map b.siblingBoundary }).level
  ∃ new : List TraceEvent, t.trace = s.trace ++ new ∧ new.Pairwise (fun e f => e.signal < f.signal) ∧
    (∀ e ∈ new, e.cycle = s.cycle ∧ e.signal < s.signals.length) ∧
    ∀ (j : Nat) (g : Signal), s.signals[j]? = some g →
      t.signals[j]? = some { g with last := some (level g.endpoint) } ∧
      ∀ x, (∃ e ∈ new, e.signal = j ∧ e.value = x) ↔ x = level g.endpoint ∧ g.last ≠ some x
end

