-- ==== Sys2Proof/Laws/Bits.lean ====
section
/-! SUPPORT. The bits that setting a bit, storing under a mask and computing flags leave. -/

namespace Sys2Proof.Machine

/-- Two bytes with the same eight bits are equal. -/
theorem byte_ext {a b : Byte} (h : ∀ i < 8, bitOf a i = bitOf b i) : a = b :=
  BitVec.eq_of_getLsbD_eq fun i hi => h i hi

/-- The bits after one is set. -/
theorem bitOf_setBit (v : Byte) (i j : Nat) (b : Bool) (hi : i < 8) :
    bitOf (setBit v i b) j = if j = i then b else bitOf v j := by
  unfold setBit bitOf
  split_ifs with h1 h2 h2
  · simp_all
  · simp only [BitVec.getLsbD_or, BitVec.getLsbD_shiftLeft]
    by_cases hj : j < i
    · simp [hj]
    · have : j - i ≠ 0 := by omega
      simp [this]
  · simp_all
  · simp only [BitVec.getLsbD_and, BitVec.getLsbD_not, BitVec.getLsbD_shiftLeft]
    by_cases hj : j < i
    · by_cases h8 : j < 8
      · simp [hj, h8]
      · simp [BitVec.getLsbD_of_ge v j (by omega)]
    · have : j - i ≠ 0 := by omega
      by_cases h8 : j < 8
      · simp [this, h8]
      · simp [BitVec.getLsbD_of_ge v j (by omega)]

/-- The bits after a masked store (R92). -/
theorem bitOf_storeBits (implemented old v mask : Byte) (i : Nat) :
    bitOf (storeBits implemented old v mask) i =
      if bitOf mask i && bitOf implemented i then bitOf v i else bitOf old i := by
  unfold storeBits bitOf
  simp only [BitVec.getLsbD_or, BitVec.getLsbD_and, BitVec.getLsbD_not]
  by_cases h8 : i < 8
  · cases mask.getLsbD i <;> cases implemented.getLsbD i <;> simp [h8]
  · simp [BitVec.getLsbD_of_ge _ i (show 8 ≤ i by omega)]

/-- Bit i of a byte built from a part x above one bit b. -/
theorem getLsbD_append_ofBool {n : Nat} (x : BitVec n) (b : Bool) (i : Nat) :
    (x ++ BitVec.ofBool b).getLsbD i = if i = 0 then b else x.getLsbD (i - 1) := by
  rw [BitVec.getLsbD_append]
  rcases Nat.eq_zero_or_pos i with rfl | h
  · simp
  · rw [if_neg (by omega), if_neg (by omega)]

/-- Bits 0 to 7 of the flags (R34). -/
theorem bitOf_flagsHSVNZC (sreg : Byte) (h v n z c : Bool) :
    bitOf (flagsHSVNZC sreg h v n z c) 0 = c ∧ bitOf (flagsHSVNZC sreg h v n z c) 1 = z ∧
    bitOf (flagsHSVNZC sreg h v n z c) 2 = n ∧ bitOf (flagsHSVNZC sreg h v n z c) 3 = v ∧
    bitOf (flagsHSVNZC sreg h v n z c) 4 = (n ^^ v) ∧ bitOf (flagsHSVNZC sreg h v n z c) 5 = h ∧
    bitOf (flagsHSVNZC sreg h v n z c) 6 = bitOf sreg 6 ∧ bitOf (flagsHSVNZC sreg h v n z c) 7 = bitOf sreg 7 := by
  unfold flagsHSVNZC bitOf
  refine ⟨?_, ?_, ?_, ?_, ?_, ?_, ?_, ?_⟩ <;>
    simp only [getLsbD_append_ofBool, BitVec.getLsbD_extractLsb', Nat.reduceSub, Nat.reduceAdd, Nat.reduceLT,
      OfNat.ofNat_ne_zero, one_ne_zero, reduceIte, decide_true, Bool.true_and]

/-- The bits of the multiplies' flags. -/
theorem bitOf_flagsZC (sreg : Byte) (z c : Bool) :
    bitOf (flagsZC sreg z c) 0 = c ∧ bitOf (flagsZC sreg z c) 1 = z ∧
    ∀ i, 2 ≤ i → bitOf (flagsZC sreg z c) i = bitOf sreg i := by
  unfold flagsZC bitOf
  refine ⟨?_, ?_, fun i hi => ?_⟩
  · simp only [getLsbD_append_ofBool, reduceIte]
  · simp only [getLsbD_append_ofBool, one_ne_zero, reduceIte, Nat.sub_self]
  · rw [getLsbD_append_ofBool, getLsbD_append_ofBool, if_neg (by omega), if_neg (by omega),
      BitVec.getLsbD_extractLsb']
    by_cases h8 : i < 8
    · rw [show i - 1 - 1 < 6 by omega |> decide_eq_true, Bool.true_and, show 2 + (i - 1 - 1) = i by omega]
    · rw [BitVec.getLsbD_of_ge sreg i (by omega), show ¬ i - 1 - 1 < 6 by omega |> decide_eq_false, Bool.false_and]

end Sys2Proof.Machine
end

