-- ==== Sys2Proof/Laws/Memory.lean ====
section
/-! SUPPORT. The laws of the sorted-list memories: what a read gives after a write, and that a write keeps the
canonical form. -/

namespace Sys2Proof.Machine.Memory

/-- Below every cell, an address reads as unlisted. -/
theorem read_of_lt {space : Space} {low : Nat} {m : Memory} (h : wfFrom space low m) {a : Nat} (ha : a < low) :
    read space m a = space.unlisted := by
  cases m with
  | nil => rfl
  | cons c m =>
    obtain ⟨k, v⟩ := c
    simp only [wfFrom, Bool.and_eq_true, decide_eq_true_eq] at h
    rw [read, if_pos (by omega)]

/-- A canonical form from `low` on is one from any lower bound on. -/
theorem wfFrom_mono {space : Space} {low low' : Nat} {m : Memory} (h : wfFrom space low m) (hl : low' ≤ low) :
    wfFrom space low' m := by
  cases m with
  | nil => rfl
  | cons c m =>
    obtain ⟨k, v⟩ := c
    simp only [wfFrom, Bool.and_eq_true, decide_eq_true_eq] at h ⊢
    exact ⟨⟨by omega, h.1.2⟩, h.2⟩

/-- A write at or above `low` keeps the canonical form from `low` on. -/
theorem wfFrom_write {space : Space} {low a : Nat} (v : Byte) {m : Memory} (h : wfFrom space low m) (ha : low ≤ a) :
    wfFrom space low (write space m a v) := by
  induction m generalizing low with
  | nil =>
    rw [write]
    split
    · rfl
    · simp only [wfFrom, Bool.and_eq_true, decide_eq_true_eq, bne_iff_ne, ne_eq]
      exact ⟨⟨ha, by assumption⟩, trivial⟩
  | cons c m ih =>
    obtain ⟨k, w⟩ := c
    simp only [wfFrom, Bool.and_eq_true, decide_eq_true_eq, bne_iff_ne, ne_eq] at h
    rw [write]
    split_ifs with h1 h2 h3 h4
    · simpa [wfFrom] using h
    · simp only [wfFrom, Bool.and_eq_true, decide_eq_true_eq, bne_iff_ne, ne_eq]
      exact ⟨⟨ha, h2⟩, ⟨by omega, h.1.2⟩, h.2⟩
    · exact wfFrom_mono h.2 (by omega)
    · simp only [wfFrom, Bool.and_eq_true, decide_eq_true_eq, bne_iff_ne, ne_eq]
      exact ⟨⟨ha, h4⟩, h3 ▸ h.2⟩
    · simp only [wfFrom, Bool.and_eq_true, decide_eq_true_eq, bne_iff_ne, ne_eq]
      exact ⟨h.1, ih h.2 (by omega)⟩

/-- Every write keeps the canonical form. -/
theorem wf_write {space : Space} (a : Nat) (v : Byte) {m : Memory} (h : wf space m) : wf space (write space m a v) :=
  wfFrom_write v h (Nat.zero_le a)

/-- Several writes keep the canonical form. -/
theorem wf_writeBytes {space : Space} (vs : List Byte) : ∀ {m : Memory} (a : Nat), wf space m →
    wf space (writeBytes space m a vs) := by
  induction vs with
  | nil => intro m a h; exact h
  | cons v vs ih => intro m a h; exact ih (a + 1) (wf_write a v h)

/-- The empty memory is canonical. -/
@[simp] theorem wf_nil (space : Space) : wf space [] = true := rfl

/-- A read of the address just written gives the byte written. -/
theorem read_write_same {space : Space} {low : Nat} {m : Memory} (h : wfFrom space low m) (a : Nat) (v : Byte) :
    read space (write space m a v) a = v := by
  induction m generalizing low with
  | nil =>
    rw [write]
    split
    · simp_all [read]
    · simp [read]
  | cons c m ih =>
    obtain ⟨k, w⟩ := c
    simp only [wfFrom, Bool.and_eq_true, decide_eq_true_eq, bne_iff_ne, ne_eq] at h
    rw [write]
    split_ifs with h1 h2 h3 h4
    · rw [read, if_pos h1, h2]
    · simp [read]
    · rw [read_of_lt h.2 (by omega), h4]
    · simp [read]
    · rw [read, if_neg h1, if_neg h3]
      exact ih h.2

/-- A write leaves every other address alone. -/
theorem read_write_other {space : Space} {low : Nat} {m : Memory} (h : wfFrom space low m) {a b : Nat} (hab : b ≠ a)
    (v : Byte) : read space (write space m a v) b = read space m b := by
  induction m generalizing low with
  | nil =>
    rw [write]
    split
    · rfl
    · simp only [read]
      split_ifs <;> rfl
  | cons c m ih =>
    obtain ⟨k, w⟩ := c
    simp only [wfFrom, Bool.and_eq_true, decide_eq_true_eq, bne_iff_ne, ne_eq] at h
    rw [write]
    split_ifs with h1 h2 h3 h4
    · rfl
    · simp only [read]
      split_ifs <;> first | rfl | omega
    · subst h3
      rw [read]
      split_ifs with h5
      · exact read_of_lt h.2 (by omega)
      · rfl
    · subst h3
      simp only [read]
      split_ifs <;> rfl
    · simp only [read]
      rw [ih h.2]

/-- What a read gives after a write. -/
theorem read_write {space : Space} {m : Memory} (h : wf space m) (a b : Nat) (v : Byte) :
    read space (write space m a v) b = if b = a then v else read space m b := by
  split_ifs with hab
  · subst hab; exact read_write_same h b v
  · exact read_write_other h hab v

/-- Two canonical memories that read alike are the same list. -/
theorem ext_of_read {space : Space} {low : Nat} {m n : Memory} (hm : wfFrom space low m) (hn : wfFrom space low n)
    (h : ∀ a, read space m a = read space n a) : m = n := by
  induction m generalizing low n with
  | nil =>
    cases n with
    | nil => rfl
    | cons c n =>
      obtain ⟨k, v⟩ := c
      simp only [wfFrom, Bool.and_eq_true, decide_eq_true_eq, bne_iff_ne, ne_eq] at hn
      have := h k
      simp [read] at this
      exact absurd this.symm hn.1.2
  | cons c m ih =>
    obtain ⟨k, v⟩ := c
    cases n with
    | nil =>
      simp only [wfFrom, Bool.and_eq_true, decide_eq_true_eq, bne_iff_ne, ne_eq] at hm
      have := h k
      simp [read] at this
      exact absurd this hm.1.2
    | cons c' n =>
      obtain ⟨k', v'⟩ := c'
      simp only [wfFrom, Bool.and_eq_true, decide_eq_true_eq, bne_iff_ne, ne_eq] at hm hn
      have hk : k = k' := by
        rcases Nat.lt_trichotomy k k' with hlt | heq | hgt
        · have := h k
          simp [read, hlt] at this
          exact absurd this hm.1.2
        · exact heq
        · have := h k'
          simp [read, hgt] at this
          exact absurd this.symm hn.1.2
      subst hk
      have hv : v = v' := by simpa [read] using h k
      subst hv
      congr 1
      refine ih hm.2 hn.2 fun a => ?_
      rcases Nat.lt_or_ge a (k + 1) with hlt | hge
      · rw [read_of_lt hm.2 hlt, read_of_lt hn.2 hlt]
      · have := h a
        simpa [read, show ¬ a < k by omega, show ¬ a = k by omega] using this

end Sys2Proof.Machine.Memory
end

