-- ==== Sys2Proof/Laws/State.lean ====
section
/-! SUPPORT. One lemma per field per update of a Device, true by `rfl`: what each of the named updates of Ops.lean,
Io.lean, Gpio.lean, Interrupts.lean and Cycle.lean leaves in each field. No proof unfolds a record update. -/

namespace Sys2Proof.Machine.Device

/-! ### setReg -/

@[simp] theorem setReg_name (d : Device) (r : Reg) (v : Byte) : (d.setReg r v).name = d.name := rfl
@[simp] theorem setReg_prog (d : Device) (r : Reg) (v : Byte) : (d.setReg r v).prog = d.prog := rfl
@[simp] theorem setReg_regs (d : Device) (r : Reg) (v : Byte) : (d.setReg r v).regs = d.regs.set r.val v := rfl
@[simp] theorem setReg_sreg (d : Device) (r : Reg) (v : Byte) : (d.setReg r v).sreg = d.sreg := rfl
@[simp] theorem setReg_pc (d : Device) (r : Reg) (v : Byte) : (d.setReg r v).pc = d.pc := rfl
@[simp] theorem setReg_sp (d : Device) (r : Reg) (v : Byte) : (d.setReg r v).sp = d.sp := rfl
@[simp] theorem setReg_ctl (d : Device) (r : Reg) (v : Byte) : (d.setReg r v).ctl = d.ctl := rfl
@[simp] theorem setReg_timer (d : Device) (r : Reg) (v : Byte) : (d.setReg r v).timer = d.timer := rfl
@[simp] theorem setReg_usart (d : Device) (r : Reg) (v : Byte) : (d.setReg r v).usart = d.usart := rfl
@[simp] theorem setReg_ports (d : Device) (r : Reg) (v : Byte) : (d.setReg r v).ports = d.ports := rfl
@[simp] theorem setReg_sram (d : Device) (r : Reg) (v : Byte) : (d.setReg r v).sram = d.sram := rfl
@[simp] theorem setReg_fired25 (d : Device) (r : Reg) (v : Byte) : (d.setReg r v).fired25 = d.fired25 := rfl
@[simp] theorem setReg_fired26 (d : Device) (r : Reg) (v : Byte) : (d.setReg r v).fired26 = d.fired26 := rfl
@[simp] theorem setReg_inhibit (d : Device) (r : Reg) (v : Byte) : (d.setReg r v).inhibit = d.inhibit := rfl
@[simp] theorem setReg_mode (d : Device) (r : Reg) (v : Byte) : (d.setReg r v).mode = d.mode := rfl
@[simp] theorem setReg_time (d : Device) (r : Reg) (v : Byte) : (d.setReg r v).time = d.time := rfl
@[simp] theorem setReg_draws (d : Device) (r : Reg) (v : Byte) : (d.setReg r v).draws = d.draws := rfl

/-! ### setSreg -/

@[simp] theorem setSreg_name (d : Device) (v : Byte) : (d.setSreg v).name = d.name := rfl
@[simp] theorem setSreg_prog (d : Device) (v : Byte) : (d.setSreg v).prog = d.prog := rfl
@[simp] theorem setSreg_regs (d : Device) (v : Byte) : (d.setSreg v).regs = d.regs := rfl
@[simp] theorem setSreg_sreg (d : Device) (v : Byte) : (d.setSreg v).sreg = v := rfl
@[simp] theorem setSreg_pc (d : Device) (v : Byte) : (d.setSreg v).pc = d.pc := rfl
@[simp] theorem setSreg_sp (d : Device) (v : Byte) : (d.setSreg v).sp = d.sp := rfl
@[simp] theorem setSreg_ctl (d : Device) (v : Byte) : (d.setSreg v).ctl = d.ctl := rfl
@[simp] theorem setSreg_timer (d : Device) (v : Byte) : (d.setSreg v).timer = d.timer := rfl
@[simp] theorem setSreg_usart (d : Device) (v : Byte) : (d.setSreg v).usart = d.usart := rfl
@[simp] theorem setSreg_ports (d : Device) (v : Byte) : (d.setSreg v).ports = d.ports := rfl
@[simp] theorem setSreg_sram (d : Device) (v : Byte) : (d.setSreg v).sram = d.sram := rfl
@[simp] theorem setSreg_fired25 (d : Device) (v : Byte) : (d.setSreg v).fired25 = d.fired25 := rfl
@[simp] theorem setSreg_fired26 (d : Device) (v : Byte) : (d.setSreg v).fired26 = d.fired26 := rfl
@[simp] theorem setSreg_inhibit (d : Device) (v : Byte) : (d.setSreg v).inhibit = d.inhibit := rfl
@[simp] theorem setSreg_mode (d : Device) (v : Byte) : (d.setSreg v).mode = d.mode := rfl
@[simp] theorem setSreg_time (d : Device) (v : Byte) : (d.setSreg v).time = d.time := rfl
@[simp] theorem setSreg_draws (d : Device) (v : Byte) : (d.setSreg v).draws = d.draws := rfl

/-! ### setSp -/

@[simp] theorem setSp_name (d : Device) (v : Word) : (d.setSp v).name = d.name := rfl
@[simp] theorem setSp_prog (d : Device) (v : Word) : (d.setSp v).prog = d.prog := rfl
@[simp] theorem setSp_regs (d : Device) (v : Word) : (d.setSp v).regs = d.regs := rfl
@[simp] theorem setSp_sreg (d : Device) (v : Word) : (d.setSp v).sreg = d.sreg := rfl
@[simp] theorem setSp_pc (d : Device) (v : Word) : (d.setSp v).pc = d.pc := rfl
@[simp] theorem setSp_sp (d : Device) (v : Word) : (d.setSp v).sp = v := rfl
@[simp] theorem setSp_ctl (d : Device) (v : Word) : (d.setSp v).ctl = d.ctl := rfl
@[simp] theorem setSp_timer (d : Device) (v : Word) : (d.setSp v).timer = d.timer := rfl
@[simp] theorem setSp_usart (d : Device) (v : Word) : (d.setSp v).usart = d.usart := rfl
@[simp] theorem setSp_ports (d : Device) (v : Word) : (d.setSp v).ports = d.ports := rfl
@[simp] theorem setSp_sram (d : Device) (v : Word) : (d.setSp v).sram = d.sram := rfl
@[simp] theorem setSp_fired25 (d : Device) (v : Word) : (d.setSp v).fired25 = d.fired25 := rfl
@[simp] theorem setSp_fired26 (d : Device) (v : Word) : (d.setSp v).fired26 = d.fired26 := rfl
@[simp] theorem setSp_inhibit (d : Device) (v : Word) : (d.setSp v).inhibit = d.inhibit := rfl
@[simp] theorem setSp_mode (d : Device) (v : Word) : (d.setSp v).mode = d.mode := rfl
@[simp] theorem setSp_time (d : Device) (v : Word) : (d.setSp v).time = d.time := rfl
@[simp] theorem setSp_draws (d : Device) (v : Word) : (d.setSp v).draws = d.draws := rfl

/-! ### setCtl -/

@[simp] theorem setCtl_name (d : Device) (x : Control) : (d.setCtl x).name = d.name := rfl
@[simp] theorem setCtl_prog (d : Device) (x : Control) : (d.setCtl x).prog = d.prog := rfl
@[simp] theorem setCtl_regs (d : Device) (x : Control) : (d.setCtl x).regs = d.regs := rfl
@[simp] theorem setCtl_sreg (d : Device) (x : Control) : (d.setCtl x).sreg = d.sreg := rfl
@[simp] theorem setCtl_pc (d : Device) (x : Control) : (d.setCtl x).pc = d.pc := rfl
@[simp] theorem setCtl_sp (d : Device) (x : Control) : (d.setCtl x).sp = d.sp := rfl
@[simp] theorem setCtl_ctl (d : Device) (x : Control) : (d.setCtl x).ctl = x := rfl
@[simp] theorem setCtl_timer (d : Device) (x : Control) : (d.setCtl x).timer = d.timer := rfl
@[simp] theorem setCtl_usart (d : Device) (x : Control) : (d.setCtl x).usart = d.usart := rfl
@[simp] theorem setCtl_ports (d : Device) (x : Control) : (d.setCtl x).ports = d.ports := rfl
@[simp] theorem setCtl_sram (d : Device) (x : Control) : (d.setCtl x).sram = d.sram := rfl
@[simp] theorem setCtl_fired25 (d : Device) (x : Control) : (d.setCtl x).fired25 = d.fired25 := rfl
@[simp] theorem setCtl_fired26 (d : Device) (x : Control) : (d.setCtl x).fired26 = d.fired26 := rfl
@[simp] theorem setCtl_inhibit (d : Device) (x : Control) : (d.setCtl x).inhibit = d.inhibit := rfl
@[simp] theorem setCtl_mode (d : Device) (x : Control) : (d.setCtl x).mode = d.mode := rfl
@[simp] theorem setCtl_time (d : Device) (x : Control) : (d.setCtl x).time = d.time := rfl
@[simp] theorem setCtl_draws (d : Device) (x : Control) : (d.setCtl x).draws = d.draws := rfl

/-! ### setTimer -/

@[simp] theorem setTimer_name (d : Device) (x : Timer0) : (d.setTimer x).name = d.name := rfl
@[simp] theorem setTimer_prog (d : Device) (x : Timer0) : (d.setTimer x).prog = d.prog := rfl
@[simp] theorem setTimer_regs (d : Device) (x : Timer0) : (d.setTimer x).regs = d.regs := rfl
@[simp] theorem setTimer_sreg (d : Device) (x : Timer0) : (d.setTimer x).sreg = d.sreg := rfl
@[simp] theorem setTimer_pc (d : Device) (x : Timer0) : (d.setTimer x).pc = d.pc := rfl
@[simp] theorem setTimer_sp (d : Device) (x : Timer0) : (d.setTimer x).sp = d.sp := rfl
@[simp] theorem setTimer_ctl (d : Device) (x : Timer0) : (d.setTimer x).ctl = d.ctl := rfl
@[simp] theorem setTimer_timer (d : Device) (x : Timer0) : (d.setTimer x).timer = x := rfl
@[simp] theorem setTimer_usart (d : Device) (x : Timer0) : (d.setTimer x).usart = d.usart := rfl
@[simp] theorem setTimer_ports (d : Device) (x : Timer0) : (d.setTimer x).ports = d.ports := rfl
@[simp] theorem setTimer_sram (d : Device) (x : Timer0) : (d.setTimer x).sram = d.sram := rfl
@[simp] theorem setTimer_fired25 (d : Device) (x : Timer0) : (d.setTimer x).fired25 = d.fired25 := rfl
@[simp] theorem setTimer_fired26 (d : Device) (x : Timer0) : (d.setTimer x).fired26 = d.fired26 := rfl
@[simp] theorem setTimer_inhibit (d : Device) (x : Timer0) : (d.setTimer x).inhibit = d.inhibit := rfl
@[simp] theorem setTimer_mode (d : Device) (x : Timer0) : (d.setTimer x).mode = d.mode := rfl
@[simp] theorem setTimer_time (d : Device) (x : Timer0) : (d.setTimer x).time = d.time := rfl
@[simp] theorem setTimer_draws (d : Device) (x : Timer0) : (d.setTimer x).draws = d.draws := rfl

/-! ### setUsart -/

@[simp] theorem setUsart_name (d : Device) (x : Usart0) : (d.setUsart x).name = d.name := rfl
@[simp] theorem setUsart_prog (d : Device) (x : Usart0) : (d.setUsart x).prog = d.prog := rfl
@[simp] theorem setUsart_regs (d : Device) (x : Usart0) : (d.setUsart x).regs = d.regs := rfl
@[simp] theorem setUsart_sreg (d : Device) (x : Usart0) : (d.setUsart x).sreg = d.sreg := rfl
@[simp] theorem setUsart_pc (d : Device) (x : Usart0) : (d.setUsart x).pc = d.pc := rfl
@[simp] theorem setUsart_sp (d : Device) (x : Usart0) : (d.setUsart x).sp = d.sp := rfl
@[simp] theorem setUsart_ctl (d : Device) (x : Usart0) : (d.setUsart x).ctl = d.ctl := rfl
@[simp] theorem setUsart_timer (d : Device) (x : Usart0) : (d.setUsart x).timer = d.timer := rfl
@[simp] theorem setUsart_usart (d : Device) (x : Usart0) : (d.setUsart x).usart = x := rfl
@[simp] theorem setUsart_ports (d : Device) (x : Usart0) : (d.setUsart x).ports = d.ports := rfl
@[simp] theorem setUsart_sram (d : Device) (x : Usart0) : (d.setUsart x).sram = d.sram := rfl
@[simp] theorem setUsart_fired25 (d : Device) (x : Usart0) : (d.setUsart x).fired25 = d.fired25 := rfl
@[simp] theorem setUsart_fired26 (d : Device) (x : Usart0) : (d.setUsart x).fired26 = d.fired26 := rfl
@[simp] theorem setUsart_inhibit (d : Device) (x : Usart0) : (d.setUsart x).inhibit = d.inhibit := rfl
@[simp] theorem setUsart_mode (d : Device) (x : Usart0) : (d.setUsart x).mode = d.mode := rfl
@[simp] theorem setUsart_time (d : Device) (x : Usart0) : (d.setUsart x).time = d.time := rfl
@[simp] theorem setUsart_draws (d : Device) (x : Usart0) : (d.setUsart x).draws = d.draws := rfl

/-! ### setPortRegs -/

@[simp] theorem setPortRegs_name (d : Device) (p : PortName) (r : Port) : (d.setPortRegs p r).name = d.name := rfl
@[simp] theorem setPortRegs_prog (d : Device) (p : PortName) (r : Port) : (d.setPortRegs p r).prog = d.prog := rfl
@[simp] theorem setPortRegs_regs (d : Device) (p : PortName) (r : Port) : (d.setPortRegs p r).regs = d.regs := rfl
@[simp] theorem setPortRegs_sreg (d : Device) (p : PortName) (r : Port) : (d.setPortRegs p r).sreg = d.sreg := rfl
@[simp] theorem setPortRegs_pc (d : Device) (p : PortName) (r : Port) : (d.setPortRegs p r).pc = d.pc := rfl
@[simp] theorem setPortRegs_sp (d : Device) (p : PortName) (r : Port) : (d.setPortRegs p r).sp = d.sp := rfl
@[simp] theorem setPortRegs_ctl (d : Device) (p : PortName) (r : Port) : (d.setPortRegs p r).ctl = d.ctl := rfl
@[simp] theorem setPortRegs_timer (d : Device) (p : PortName) (r : Port) : (d.setPortRegs p r).timer = d.timer := rfl
@[simp] theorem setPortRegs_usart (d : Device) (p : PortName) (r : Port) : (d.setPortRegs p r).usart = d.usart := rfl
@[simp] theorem setPortRegs_ports (d : Device) (p : PortName) (r : Port) : (d.setPortRegs p r).ports = d.ports.set p.index r := rfl
@[simp] theorem setPortRegs_sram (d : Device) (p : PortName) (r : Port) : (d.setPortRegs p r).sram = d.sram := rfl
@[simp] theorem setPortRegs_fired25 (d : Device) (p : PortName) (r : Port) : (d.setPortRegs p r).fired25 = d.fired25 := rfl
@[simp] theorem setPortRegs_fired26 (d : Device) (p : PortName) (r : Port) : (d.setPortRegs p r).fired26 = d.fired26 := rfl
@[simp] theorem setPortRegs_inhibit (d : Device) (p : PortName) (r : Port) : (d.setPortRegs p r).inhibit = d.inhibit := rfl
@[simp] theorem setPortRegs_mode (d : Device) (p : PortName) (r : Port) : (d.setPortRegs p r).mode = d.mode := rfl
@[simp] theorem setPortRegs_time (d : Device) (p : PortName) (r : Port) : (d.setPortRegs p r).time = d.time := rfl
@[simp] theorem setPortRegs_draws (d : Device) (p : PortName) (r : Port) : (d.setPortRegs p r).draws = d.draws := rfl

/-! ### setSramByte -/

@[simp] theorem setSramByte_name (d : Device) (a : Nat) (v : Byte) : (d.setSramByte a v).name = d.name := rfl
@[simp] theorem setSramByte_prog (d : Device) (a : Nat) (v : Byte) : (d.setSramByte a v).prog = d.prog := rfl
@[simp] theorem setSramByte_regs (d : Device) (a : Nat) (v : Byte) : (d.setSramByte a v).regs = d.regs := rfl
@[simp] theorem setSramByte_sreg (d : Device) (a : Nat) (v : Byte) : (d.setSramByte a v).sreg = d.sreg := rfl
@[simp] theorem setSramByte_pc (d : Device) (a : Nat) (v : Byte) : (d.setSramByte a v).pc = d.pc := rfl
@[simp] theorem setSramByte_sp (d : Device) (a : Nat) (v : Byte) : (d.setSramByte a v).sp = d.sp := rfl
@[simp] theorem setSramByte_ctl (d : Device) (a : Nat) (v : Byte) : (d.setSramByte a v).ctl = d.ctl := rfl
@[simp] theorem setSramByte_timer (d : Device) (a : Nat) (v : Byte) : (d.setSramByte a v).timer = d.timer := rfl
@[simp] theorem setSramByte_usart (d : Device) (a : Nat) (v : Byte) : (d.setSramByte a v).usart = d.usart := rfl
@[simp] theorem setSramByte_ports (d : Device) (a : Nat) (v : Byte) : (d.setSramByte a v).ports = d.ports := rfl
@[simp] theorem setSramByte_sram (d : Device) (a : Nat) (v : Byte) : (d.setSramByte a v).sram = Memory.write .sram d.sram a v := rfl
@[simp] theorem setSramByte_fired25 (d : Device) (a : Nat) (v : Byte) : (d.setSramByte a v).fired25 = d.fired25 := rfl
@[simp] theorem setSramByte_fired26 (d : Device) (a : Nat) (v : Byte) : (d.setSramByte a v).fired26 = d.fired26 := rfl
@[simp] theorem setSramByte_inhibit (d : Device) (a : Nat) (v : Byte) : (d.setSramByte a v).inhibit = d.inhibit := rfl
@[simp] theorem setSramByte_mode (d : Device) (a : Nat) (v : Byte) : (d.setSramByte a v).mode = d.mode := rfl
@[simp] theorem setSramByte_time (d : Device) (a : Nat) (v : Byte) : (d.setSramByte a v).time = d.time := rfl
@[simp] theorem setSramByte_draws (d : Device) (a : Nat) (v : Byte) : (d.setSramByte a v).draws = d.draws := rfl

/-! ### advance -/

@[simp] theorem advance_name (d : Device) (c : Config) (w : ProgAddr) (n : Nat) : (d.advance c w n).name = d.name := rfl
@[simp] theorem advance_prog (d : Device) (c : Config) (w : ProgAddr) (n : Nat) : (d.advance c w n).prog = d.prog := rfl
@[simp] theorem advance_regs (d : Device) (c : Config) (w : ProgAddr) (n : Nat) : (d.advance c w n).regs = d.regs := rfl
@[simp] theorem advance_sreg (d : Device) (c : Config) (w : ProgAddr) (n : Nat) : (d.advance c w n).sreg = d.sreg := rfl
@[simp] theorem advance_pc (d : Device) (c : Config) (w : ProgAddr) (n : Nat) : (d.advance c w n).pc = c.wrapPc (d.pc + w) := rfl
@[simp] theorem advance_sp (d : Device) (c : Config) (w : ProgAddr) (n : Nat) : (d.advance c w n).sp = d.sp := rfl
@[simp] theorem advance_ctl (d : Device) (c : Config) (w : ProgAddr) (n : Nat) : (d.advance c w n).ctl = d.ctl := rfl
@[simp] theorem advance_timer (d : Device) (c : Config) (w : ProgAddr) (n : Nat) : (d.advance c w n).timer = d.timer := rfl
@[simp] theorem advance_usart (d : Device) (c : Config) (w : ProgAddr) (n : Nat) : (d.advance c w n).usart = d.usart := rfl
@[simp] theorem advance_ports (d : Device) (c : Config) (w : ProgAddr) (n : Nat) : (d.advance c w n).ports = d.ports := rfl
@[simp] theorem advance_sram (d : Device) (c : Config) (w : ProgAddr) (n : Nat) : (d.advance c w n).sram = d.sram := rfl
@[simp] theorem advance_fired25 (d : Device) (c : Config) (w : ProgAddr) (n : Nat) : (d.advance c w n).fired25 = d.fired25 := rfl
@[simp] theorem advance_fired26 (d : Device) (c : Config) (w : ProgAddr) (n : Nat) : (d.advance c w n).fired26 = d.fired26 := rfl
@[simp] theorem advance_inhibit (d : Device) (c : Config) (w : ProgAddr) (n : Nat) : (d.advance c w n).inhibit = false := rfl
@[simp] theorem advance_mode (d : Device) (c : Config) (w : ProgAddr) (n : Nat) : (d.advance c w n).mode = d.mode := rfl
@[simp] theorem advance_time (d : Device) (c : Config) (w : ProgAddr) (n : Nat) : (d.advance c w n).time = d.time + n := rfl
@[simp] theorem advance_draws (d : Device) (c : Config) (w : ProgAddr) (n : Nat) : (d.advance c w n).draws = d.draws := rfl

/-! ### jumpTo -/

@[simp] theorem jumpTo_name (d : Device) (t : ProgAddr) (n : Nat) : (d.jumpTo t n).name = d.name := rfl
@[simp] theorem jumpTo_prog (d : Device) (t : ProgAddr) (n : Nat) : (d.jumpTo t n).prog = d.prog := rfl
@[simp] theorem jumpTo_regs (d : Device) (t : ProgAddr) (n : Nat) : (d.jumpTo t n).regs = d.regs := rfl
@[simp] theorem jumpTo_sreg (d : Device) (t : ProgAddr) (n : Nat) : (d.jumpTo t n).sreg = d.sreg := rfl
@[simp] theorem jumpTo_pc (d : Device) (t : ProgAddr) (n : Nat) : (d.jumpTo t n).pc = t := rfl
@[simp] theorem jumpTo_sp (d : Device) (t : ProgAddr) (n : Nat) : (d.jumpTo t n).sp = d.sp := rfl
@[simp] theorem jumpTo_ctl (d : Device) (t : ProgAddr) (n : Nat) : (d.jumpTo t n).ctl = d.ctl := rfl
@[simp] theorem jumpTo_timer (d : Device) (t : ProgAddr) (n : Nat) : (d.jumpTo t n).timer = d.timer := rfl
@[simp] theorem jumpTo_usart (d : Device) (t : ProgAddr) (n : Nat) : (d.jumpTo t n).usart = d.usart := rfl
@[simp] theorem jumpTo_ports (d : Device) (t : ProgAddr) (n : Nat) : (d.jumpTo t n).ports = d.ports := rfl
@[simp] theorem jumpTo_sram (d : Device) (t : ProgAddr) (n : Nat) : (d.jumpTo t n).sram = d.sram := rfl
@[simp] theorem jumpTo_fired25 (d : Device) (t : ProgAddr) (n : Nat) : (d.jumpTo t n).fired25 = d.fired25 := rfl
@[simp] theorem jumpTo_fired26 (d : Device) (t : ProgAddr) (n : Nat) : (d.jumpTo t n).fired26 = d.fired26 := rfl
@[simp] theorem jumpTo_inhibit (d : Device) (t : ProgAddr) (n : Nat) : (d.jumpTo t n).inhibit = false := rfl
@[simp] theorem jumpTo_mode (d : Device) (t : ProgAddr) (n : Nat) : (d.jumpTo t n).mode = d.mode := rfl
@[simp] theorem jumpTo_time (d : Device) (t : ProgAddr) (n : Nat) : (d.jumpTo t n).time = d.time + n := rfl
@[simp] theorem jumpTo_draws (d : Device) (t : ProgAddr) (n : Nat) : (d.jumpTo t n).draws = d.draws := rfl

/-! ### halt -/

@[simp] theorem halt_name (d : Device) (e : FaultDetail) : (d.halt e).name = d.name := rfl
@[simp] theorem halt_prog (d : Device) (e : FaultDetail) : (d.halt e).prog = d.prog := rfl
@[simp] theorem halt_regs (d : Device) (e : FaultDetail) : (d.halt e).regs = d.regs := rfl
@[simp] theorem halt_sreg (d : Device) (e : FaultDetail) : (d.halt e).sreg = d.sreg := rfl
@[simp] theorem halt_pc (d : Device) (e : FaultDetail) : (d.halt e).pc = d.pc := rfl
@[simp] theorem halt_sp (d : Device) (e : FaultDetail) : (d.halt e).sp = d.sp := rfl
@[simp] theorem halt_ctl (d : Device) (e : FaultDetail) : (d.halt e).ctl = d.ctl := rfl
@[simp] theorem halt_timer (d : Device) (e : FaultDetail) : (d.halt e).timer = d.timer := rfl
@[simp] theorem halt_usart (d : Device) (e : FaultDetail) : (d.halt e).usart = d.usart := rfl
@[simp] theorem halt_ports (d : Device) (e : FaultDetail) : (d.halt e).ports = d.ports := rfl
@[simp] theorem halt_sram (d : Device) (e : FaultDetail) : (d.halt e).sram = d.sram := rfl
@[simp] theorem halt_fired25 (d : Device) (e : FaultDetail) : (d.halt e).fired25 = d.fired25 := rfl
@[simp] theorem halt_fired26 (d : Device) (e : FaultDetail) : (d.halt e).fired26 = d.fired26 := rfl
@[simp] theorem halt_inhibit (d : Device) (e : FaultDetail) : (d.halt e).inhibit = d.inhibit := rfl
@[simp] theorem halt_mode (d : Device) (e : FaultDetail) : (d.halt e).mode = .halted { device := d.name, pc := d.pc, time := d.time, detail := e } := rfl
@[simp] theorem halt_time (d : Device) (e : FaultDetail) : (d.halt e).time = d.time := rfl
@[simp] theorem halt_draws (d : Device) (e : FaultDetail) : (d.halt e).draws = d.draws := rfl

/-! ### idle -/

@[simp] theorem idle_name (d : Device) : (d.idle).name = d.name := rfl
@[simp] theorem idle_prog (d : Device) : (d.idle).prog = d.prog := rfl
@[simp] theorem idle_regs (d : Device) : (d.idle).regs = d.regs := rfl
@[simp] theorem idle_sreg (d : Device) : (d.idle).sreg = d.sreg := rfl
@[simp] theorem idle_pc (d : Device) : (d.idle).pc = d.pc := rfl
@[simp] theorem idle_sp (d : Device) : (d.idle).sp = d.sp := rfl
@[simp] theorem idle_ctl (d : Device) : (d.idle).ctl = d.ctl := rfl
@[simp] theorem idle_timer (d : Device) : (d.idle).timer = d.timer := rfl
@[simp] theorem idle_usart (d : Device) : (d.idle).usart = d.usart := rfl
@[simp] theorem idle_ports (d : Device) : (d.idle).ports = d.ports := rfl
@[simp] theorem idle_sram (d : Device) : (d.idle).sram = d.sram := rfl
@[simp] theorem idle_fired25 (d : Device) : (d.idle).fired25 = d.fired25 := rfl
@[simp] theorem idle_fired26 (d : Device) : (d.idle).fired26 = d.fired26 := rfl
@[simp] theorem idle_inhibit (d : Device) : (d.idle).inhibit = d.inhibit := rfl
@[simp] theorem idle_mode (d : Device) : (d.idle).mode = d.mode := rfl
@[simp] theorem idle_time (d : Device) : (d.idle).time = d.time + 1 := rfl
@[simp] theorem idle_draws (d : Device) : (d.idle).draws = d.draws := rfl

/-! ### refreshFired -/

@[simp] theorem refreshFired_name (d : Device) : (d.refreshFired).name = d.name := rfl
@[simp] theorem refreshFired_prog (d : Device) : (d.refreshFired).prog = d.prog := rfl
@[simp] theorem refreshFired_regs (d : Device) : (d.refreshFired).regs = d.regs := rfl
@[simp] theorem refreshFired_sreg (d : Device) : (d.refreshFired).sreg = d.sreg := rfl
@[simp] theorem refreshFired_pc (d : Device) : (d.refreshFired).pc = d.pc := rfl
@[simp] theorem refreshFired_sp (d : Device) : (d.refreshFired).sp = d.sp := rfl
@[simp] theorem refreshFired_ctl (d : Device) : (d.refreshFired).ctl = d.ctl := rfl
@[simp] theorem refreshFired_timer (d : Device) : (d.refreshFired).timer = d.timer := rfl
@[simp] theorem refreshFired_usart (d : Device) : (d.refreshFired).usart = d.usart := rfl
@[simp] theorem refreshFired_ports (d : Device) : (d.refreshFired).ports = d.ports := rfl
@[simp] theorem refreshFired_sram (d : Device) : (d.refreshFired).sram = d.sram := rfl
@[simp] theorem refreshFired_fired25 (d : Device) : (d.refreshFired).fired25 = (d.fired25 && d.usart.rxc) := rfl
@[simp] theorem refreshFired_fired26 (d : Device) : (d.refreshFired).fired26 = (d.fired26 && d.usart.udre) := rfl
@[simp] theorem refreshFired_inhibit (d : Device) : (d.refreshFired).inhibit = d.inhibit := rfl
@[simp] theorem refreshFired_mode (d : Device) : (d.refreshFired).mode = d.mode := rfl
@[simp] theorem refreshFired_time (d : Device) : (d.refreshFired).time = d.time := rfl
@[simp] theorem refreshFired_draws (d : Device) : (d.refreshFired).draws = d.draws := rfl

/-! ### setPair and setPtr: only the registers change -/

@[simp] theorem setPair_name (d : Device) (r : Reg) (v : Word) : (d.setPair r v).name = d.name := rfl
@[simp] theorem setPair_prog (d : Device) (r : Reg) (v : Word) : (d.setPair r v).prog = d.prog := rfl
@[simp] theorem setPair_sreg (d : Device) (r : Reg) (v : Word) : (d.setPair r v).sreg = d.sreg := rfl
@[simp] theorem setPair_pc (d : Device) (r : Reg) (v : Word) : (d.setPair r v).pc = d.pc := rfl
@[simp] theorem setPair_sp (d : Device) (r : Reg) (v : Word) : (d.setPair r v).sp = d.sp := rfl
@[simp] theorem setPair_ctl (d : Device) (r : Reg) (v : Word) : (d.setPair r v).ctl = d.ctl := rfl
@[simp] theorem setPair_timer (d : Device) (r : Reg) (v : Word) : (d.setPair r v).timer = d.timer := rfl
@[simp] theorem setPair_usart (d : Device) (r : Reg) (v : Word) : (d.setPair r v).usart = d.usart := rfl
@[simp] theorem setPair_ports (d : Device) (r : Reg) (v : Word) : (d.setPair r v).ports = d.ports := rfl
@[simp] theorem setPair_sram (d : Device) (r : Reg) (v : Word) : (d.setPair r v).sram = d.sram := rfl
@[simp] theorem setPair_fired25 (d : Device) (r : Reg) (v : Word) : (d.setPair r v).fired25 = d.fired25 := rfl
@[simp] theorem setPair_fired26 (d : Device) (r : Reg) (v : Word) : (d.setPair r v).fired26 = d.fired26 := rfl
@[simp] theorem setPair_inhibit (d : Device) (r : Reg) (v : Word) : (d.setPair r v).inhibit = d.inhibit := rfl
@[simp] theorem setPair_mode (d : Device) (r : Reg) (v : Word) : (d.setPair r v).mode = d.mode := rfl
@[simp] theorem setPair_time (d : Device) (r : Reg) (v : Word) : (d.setPair r v).time = d.time := rfl
@[simp] theorem setPair_draws (d : Device) (r : Reg) (v : Word) : (d.setPair r v).draws = d.draws := rfl
@[simp] theorem setPtr_name (d : Device) (p : Ptr) (v : Word) : (d.setPtr p v).name = d.name := rfl
@[simp] theorem setPtr_prog (d : Device) (p : Ptr) (v : Word) : (d.setPtr p v).prog = d.prog := rfl
@[simp] theorem setPtr_sreg (d : Device) (p : Ptr) (v : Word) : (d.setPtr p v).sreg = d.sreg := rfl
@[simp] theorem setPtr_pc (d : Device) (p : Ptr) (v : Word) : (d.setPtr p v).pc = d.pc := rfl
@[simp] theorem setPtr_sp (d : Device) (p : Ptr) (v : Word) : (d.setPtr p v).sp = d.sp := rfl
@[simp] theorem setPtr_ctl (d : Device) (p : Ptr) (v : Word) : (d.setPtr p v).ctl = d.ctl := rfl
@[simp] theorem setPtr_timer (d : Device) (p : Ptr) (v : Word) : (d.setPtr p v).timer = d.timer := rfl
@[simp] theorem setPtr_usart (d : Device) (p : Ptr) (v : Word) : (d.setPtr p v).usart = d.usart := rfl
@[simp] theorem setPtr_ports (d : Device) (p : Ptr) (v : Word) : (d.setPtr p v).ports = d.ports := rfl
@[simp] theorem setPtr_sram (d : Device) (p : Ptr) (v : Word) : (d.setPtr p v).sram = d.sram := rfl
@[simp] theorem setPtr_fired25 (d : Device) (p : Ptr) (v : Word) : (d.setPtr p v).fired25 = d.fired25 := rfl
@[simp] theorem setPtr_fired26 (d : Device) (p : Ptr) (v : Word) : (d.setPtr p v).fired26 = d.fired26 := rfl
@[simp] theorem setPtr_inhibit (d : Device) (p : Ptr) (v : Word) : (d.setPtr p v).inhibit = d.inhibit := rfl
@[simp] theorem setPtr_mode (d : Device) (p : Ptr) (v : Word) : (d.setPtr p v).mode = d.mode := rfl
@[simp] theorem setPtr_time (d : Device) (p : Ptr) (v : Word) : (d.setPtr p v).time = d.time := rfl
@[simp] theorem setPtr_draws (d : Device) (p : Ptr) (v : Word) : (d.setPtr p v).draws = d.draws := rfl

end Sys2Proof.Machine.Device
end

