-- ==== Sys2Proof/Laws/Registers.lean ====
section
/-! SUPPORT. The laws of the register file, its pairs and the ports. -/

namespace Sys2Proof.Machine.Device

/-- A register after a register is written. -/
theorem reg_setReg (d : Device) (r q : Reg) (v : Byte) : (d.setReg r v).reg q = if q = r then v else d.reg q := by
  unfold reg setReg
  simp only [Vector.getElem_set, Fin.ext_iff]
  split_ifs <;> first | rfl | omega

@[simp] theorem reg_setReg_same (d : Device) (r : Reg) (v : Byte) : (d.setReg r v).reg r = v := by
  simp [reg_setReg]

/-- A register after a pair is written. -/
theorem reg_setPair (d : Device) (r q : Reg) (v : Word) :
    (d.setPair r v).reg q =
      if q = r + 1 then v.extractLsb' 8 8 else if q = r then v.extractLsb' 0 8 else d.reg q := by
  simp only [setPair, reg_setReg]

/-- A pair's two registers differ. -/
theorem succ_ne (r : Reg) : r ≠ r + 1 := by
  intro h
  have : (r + 1).val = r.val := by rw [← h]
  simp only [Fin.val_add] at this
  have := r.isLt
  change (r.val + 1) % 32 = r.val at *
  omega

/-- A pair after it is written. -/
@[simp] theorem pair_setPair (d : Device) (r : Reg) (v : Word) : (d.setPair r v).pair r = v := by
  unfold pair
  rw [reg_setPair, reg_setPair, if_pos rfl, if_neg (succ_ne r), if_pos rfl]
  exact BitVec.eq_of_getLsbD_eq fun i hi => by
    simp only [BitVec.getLsbD_append, BitVec.getLsbD_extractLsb']
    by_cases h8 : i < 8
    · simp [h8]
    · simp [h8, show i - 8 < 8 by omega, show 8 + (i - 8) = i by omega]

@[simp] theorem ptr_setPtr (d : Device) (p : Ptr) (v : Word) : (d.setPtr p v).ptr p = v := pair_setPair d p.low v

/-- Updates that keep the registers keep what every register reads. -/
theorem reg_congr {d e : Device} (h : d.regs = e.regs) (r : Reg) : d.reg r = e.reg r := by
  unfold reg
  rw [h]

/-- A port's registers after a port is written. -/
theorem portRegs_setPortRegs (d : Device) (p q : PortName) (r : Port) :
    (d.setPortRegs p r).portRegs q = if q = p then r else d.portRegs q := by
  unfold portRegs setPortRegs
  simp only [Fin.getElem_fin, Vector.getElem_set]
  by_cases h : q = p
  · subst h; simp
  · have hne : p.index.val ≠ q.index.val := by
      intro heq
      apply h
      revert heq
      cases p <;> cases q <;> decide
    rw [if_neg h]
    simp [hne]

end Sys2Proof.Machine.Device
end

