-- ==== Sys2Proof/Laws/Ops.lean ====
section
/-! SUPPORT. One lemma for each shared operation of Ops.lean, Io.lean and Operands.lean: everything it can do. Later
proofs cite these and do not unfold the operations. -/

namespace Sys2Proof

namespace Config

/-- `wrapPc` is the remainder modulo M. -/
theorem wrapPc_toNat (c : Config) (x : ProgAddr) : (c.wrapPc x).toNat = x.toNat % c.pcModulus := by
  unfold wrapPc pcModulus PcBits.bits
  cases c.pcBits
  · simp only [BitVec.toNat_and]
    exact Nat.and_two_pow_sub_one_eq_mod x.toNat 16
  · exact (Nat.mod_eq_of_lt x.isLt).symm

/-- M is 65536 or 131072. -/
theorem pcModulus_cases (c : Config) : c.pcModulus = 65536 ∨ c.pcModulus = 131072 := by
  unfold pcModulus PcBits.bits
  cases c.pcBits
  · exact .inl rfl
  · exact .inr rfl

/-- A wrapped address is below M. -/
theorem wrapPc_lt (c : Config) (x : ProgAddr) : (c.wrapPc x).toNat < c.pcModulus := by
  rw [wrapPc_toNat]
  exact Nat.mod_lt _ (by rcases c.pcModulus_cases with h | h <;> omega)

end Config

namespace Machine

/-! ### The end of an instruction -/

@[simp] theorem State.retire_ok (s : State) (d : Device) : s.retire (.ok d) = .next { s with dev := d } := rfl

@[simp] theorem State.retire_error (s : State) (e : FaultDetail) :
    s.retire (.error e) = .next { s with dev := s.dev.halt e } := rfl

/-- A retired effect leaves everything but the Device under study. -/
theorem State.retire_eq (s : State) (e : Except FaultDetail Device) :
    ∃ d, s.retire e = .next { s with dev := d } := ⟨_, rfl⟩

namespace Device

/-- A halted Device is halted. -/
@[simp] theorem isHalted_halt (d : Device) (e : FaultDetail) : (d.halt e).isHalted = true := rfl

/-! ### Targets and fetching -/

theorem checkTarget_cases {c : Config} {t : Nat} :
    (t < c.pcModulus ∧ checkTarget c t = .ok (BitVec.ofNat 17 t)) ∨
    (c.pcModulus ≤ t ∧ checkTarget c t = .error (.bus .fetch (2 * t))) := by
  unfold checkTarget
  split_ifs with h
  · exact .inl ⟨h, rfl⟩
  · exact .inr ⟨by omega, rfl⟩

/-- A checked target is below M. -/
theorem checkTarget_lt {c : Config} {t : Nat} {a : ProgAddr} (h : checkTarget c t = .ok a) :
    a.toNat = t ∧ t < c.pcModulus := by
  rcases checkTarget_cases (c := c) (t := t) with ⟨hl, he⟩ | ⟨-, he⟩
  · rw [he] at h
    cases h
    refine ⟨?_, hl⟩
    rw [BitVec.toNat_ofNat]
    exact Nat.mod_eq_of_lt (by rcases c.pcModulus_cases with h | h <;> omega)
  · rw [he] at h; cases h

theorem fetch_cases (c : Config) (d : Device) (w : ProgAddr) :
    (2 * w.toNat + 1 < c.progBytes ∧ d.fetch c w = .ok (d.progWord w)) ∨
    (c.progBytes ≤ 2 * w.toNat + 1 ∧ d.fetch c w = .error (.bus .fetch (2 * w.toNat))) := by
  unfold fetch
  split_ifs with h
  · exact .inl ⟨h, rfl⟩
  · exact .inr ⟨by omega, rfl⟩

theorem progRead_cases (c : Config) (d : Device) (a : Nat) :
    (a < c.progBytes ∧ d.progRead c a = .ok (d.progByte a)) ∨
    (c.progBytes ≤ a ∧ d.progRead c a = .error (.bus .read a)) := by
  unfold progRead
  split_ifs with h
  · exact .inl ⟨h, rfl⟩
  · exact .inr ⟨by omega, rfl⟩

/-- A skip that completes moves past one word, or past two or three, and takes as many cycles. -/
theorem skipIf_cases {c : Config} {d d' : Device} {cond : Bool} (h : d.skipIf c cond = .ok d') :
    ∃ n : Nat, (n = 1 ∧ cond = false ∨ (n = 2 ∨ n = 3) ∧ cond = true) ∧ d' = d.advance c (BitVec.ofNat 17 n) n := by
  unfold skipIf at h
  split_ifs at h with hc
  · rcases d.fetch_cases c (c.wrapPc (d.pc + 1)) with ⟨-, he⟩ | ⟨-, he⟩ <;> rw [he] at h <;> cases h
    dsimp only [skipLength]
    by_cases hw : isTwoWord (d.progWord (c.wrapPc (d.pc + 1))) = true
    · rw [if_pos hw]
      exact ⟨3, .inr ⟨.inr rfl, hc⟩, rfl⟩
    · rw [if_neg hw]
      exact ⟨2, .inr ⟨.inl rfl, hc⟩, rfl⟩
  · cases h
    exact ⟨1, .inl ⟨rfl, by simpa using hc⟩, rfl⟩

/-! ### Data space -/

theorem ioRead_cases (d : Device) (a : Nat) :
    (∃ r, ioReg a = some r ∧ d.ioRead a = .ok (d.ioValue r, d.afterIoRead r)) ∨
    (ioReg a = none ∧ d.ioRead a = .error (.bus .read a)) := by
  unfold ioRead
  cases h : ioReg a with
  | some r => exact .inl ⟨r, rfl, rfl⟩
  | none => exact .inr ⟨rfl, rfl⟩

theorem ioWrite_cases (d : Device) (a : Nat) (v mask : Byte) :
    (∃ r, ioReg a = some r ∧ d.ioWrite a v mask = d.ioStore v mask r) ∨
    (ioReg a = none ∧ d.ioWrite a v mask = .error (.bus .write a)) := by
  unfold ioWrite
  cases h : ioReg a with
  | some r => exact .inl ⟨r, rfl, rfl⟩
  | none => exact .inr ⟨rfl, rfl⟩

/-- A read that completes, by region (R88). -/
theorem memRead_cases {d d' : Device} {a : Word} {v : Byte} (h : d.memRead a = .ok (v, d')) :
    (a.toNat ≤ 0x1F ∧ v = d.reg (Fin.ofNat 32 a.toNat) ∧ d' = d) ∨
    (0x20 ≤ a.toNat ∧ a.toNat ≤ 0x1FF ∧ ∃ r, ioReg a.toNat = some r ∧ v = d.ioValue r ∧ d' = d.afterIoRead r) ∨
    (0x200 ≤ a.toNat ∧ a.toNat ≤ 0x21FF ∧ v = d.sramByte a.toNat ∧ d' = d) := by
  unfold memRead at h
  split_ifs at h with h1 h2 h3
  · cases h; exact .inl ⟨h1, rfl, rfl⟩
  · rcases d.ioRead_cases a.toNat with ⟨r, hr, he⟩ | ⟨-, he⟩ <;> rw [he] at h <;> cases h
    exact .inr (.inl ⟨by omega, h2, r, hr, rfl, rfl⟩)
  · cases h; exact .inr (.inr ⟨by omega, h3, rfl, rfl⟩)

/-- A write that completes, by region (R89). -/
theorem memWrite_cases {d d' : Device} {a : Word} {v : Byte} (h : d.memWrite a v = .ok d') :
    (a.toNat ≤ 0x1F ∧ d' = d.setReg (Fin.ofNat 32 a.toNat) v) ∨
    (0x20 ≤ a.toNat ∧ a.toNat ≤ 0x1FF ∧ ∃ r, ioReg a.toNat = some r ∧ d.ioStore v 0xFF r = .ok d') ∨
    (0x200 ≤ a.toNat ∧ a.toNat ≤ 0x21FF ∧ d' = d.setSramByte a.toNat v) := by
  unfold memWrite at h
  split_ifs at h with h1 h2 h3
  · cases h; exact .inl ⟨h1, rfl⟩
  · rcases d.ioWrite_cases a.toNat v 0xFF with ⟨r, hr, he⟩ | ⟨-, he⟩ <;> rw [he] at h
    · exact .inr (.inl ⟨by omega, h2, r, hr, h⟩)
    · cases h
  · cases h; exact .inr (.inr ⟨by omega, h3, rfl⟩)

/-! ### The stack -/

theorem push8_cases (d : Device) (v : Byte) :
    (inSram d.sp = true ∧ d.push8 v = .ok ((d.setSramByte d.sp.toNat v).setSp (d.sp - 1))) ∨
    (inSram d.sp = false ∧ d.push8 v = .error (.stack .push d.sp)) := by
  unfold push8
  cases h : inSram d.sp
  · exact .inr ⟨rfl, by simp⟩
  · exact .inl ⟨rfl, by simp⟩

theorem pop8_cases (d : Device) :
    (inSram (d.sp + 1) = true ∧ d.pop8 = .ok (d.sramByte (d.sp + 1).toNat, d.setSp (d.sp + 1))) ∨
    (inSram (d.sp + 1) = false ∧ d.pop8 = .error (.stack .pop (d.sp + 1))) := by
  unfold pop8
  cases h : inSram (d.sp + 1)
  · exact .inr ⟨rfl, by simp⟩
  · exact .inl ⟨rfl, by simp⟩

/-- Pushes that complete change SRAM and SP only, and keep SRAM canonical. -/
theorem pushBytes_frame {vs : List Byte} : ∀ {d d' : Device}, d.pushBytes vs = .ok d' →
    d' = { d with sram := d'.sram, sp := d.sp - BitVec.ofNat 16 vs.length } ∧
      (Memory.wf .sram d.sram → Memory.wf .sram d'.sram) := by
  induction vs with
  | nil =>
    intro d d' h
    cases h
    exact ⟨by simp, id⟩
  | cons v vs ih =>
    intro d d' h
    rw [pushBytes] at h
    rcases d.push8_cases v with ⟨-, he⟩ | ⟨-, he⟩ <;> rw [he] at h
    · obtain ⟨h1, h2⟩ := ih h
      refine ⟨?_, fun hw => h2 (Memory.wf_write _ _ hw)⟩
      rw [h1]
      simp only [setSp, setSramByte, List.length_cons, Device.mk.injEq, true_and, and_true]
      rw [BitVec.ofNat_add, BitVec.sub_sub, BitVec.add_comm]
      rfl
    · cases h

/-- Pops that complete change SP only. -/
theorem popBytes_frame : ∀ {n : Nat} {d d' : Device} {v v' : Nat}, d.popBytes v n = .ok (v', d') →
    d' = { d with sp := d.sp + BitVec.ofNat 16 n } := by
  intro n
  induction n with
  | zero =>
    intro d d' v v' h
    cases h
    simp
  | succ n ih =>
    intro d d' v v' h
    rw [popBytes] at h
    rcases d.pop8_cases with ⟨-, he⟩ | ⟨-, he⟩ <;> rw [he] at h
    · rw [ih h]
      simp only [setSp, Device.mk.injEq, true_and, and_true]
      rw [BitVec.ofNat_add, BitVec.add_assoc, BitVec.add_comm (BitVec.ofNat 16 n)]
      rfl
    · cases h

/-- A call that completes changes SRAM, SP, pc, T and `inhibit`. -/
theorem call_frame {c : Config} {d d' : Device} {words target : ProgAddr} {cycles : Nat}
    (h : d.call c words target cycles = .ok d') :
    d' = { d with
      sram := d'.sram
      sp := d.sp - BitVec.ofNat 16 (raBytesOf c (c.wrapPc (d.pc + words))).length
      pc := target
      time := d.time + cycles
      inhibit := false } ∧
      (Memory.wf .sram d.sram → Memory.wf .sram d'.sram) := by
  unfold call pushRA at h
  cases hp : d.pushBytes (raBytesOf c (c.wrapPc (d.pc + words))) with
  | error e => rw [hp] at h; cases h
  | ok d1 =>
    rw [hp] at h
    cases h
    obtain ⟨h1, h2⟩ := pushBytes_frame hp
    refine ⟨?_, h2⟩
    conv_lhs => rw [h1]
    rfl

/-- A return that completes changes SP, pc, T and `inhibit`, and goes below M. -/
theorem returnTo_frame {c : Config} {d d' : Device} (h : d.returnTo c = .ok d') :
    d' = { d with
      sp := d.sp + BitVec.ofNat 16 c.pcBits.raBytes
      pc := d'.pc
      time := d.time + c.wideCost 4
      inhibit := false } ∧ d'.pc.toNat < c.pcModulus := by
  unfold returnTo popRA at h
  cases hp : d.popBytes 0 c.pcBits.raBytes with
  | error e => rw [hp] at h; cases h
  | ok r =>
    obtain ⟨t, d1⟩ := r
    rw [hp] at h
    simp only at h
    cases hc : checkTarget c t with
    | error e => rw [hc] at h; cases h
    | ok a =>
      rw [hc] at h
      cases h
      obtain ⟨h1, h2⟩ := checkTarget_lt hc
      refine ⟨?_, by rw [jumpTo_pc, h1]; exact h2⟩
      conv_lhs => rw [popBytes_frame hp]
      rfl

/-- A vectoring sequence that completes: what it changes (R416). -/
theorem takeVector_frame {c : Config} {d d' : Device} {v : Vec} {wake : Nat} (h : d.takeVector c v wake = .ok d') :
    ∃ d1, d.pushRA c d.pc = .ok d1 ∧ d' = { (d1.acknowledge v) with
      sreg := setBit d.sreg 7 false
      pc := v.address
      mode := .running
      time := d.time + (c.wideCost 4 + wake) } := by
  unfold takeVector at h
  cases hp : d.pushRA c d.pc with
  | error e => rw [hp] at h; cases h
  | ok d1 => rw [hp] at h; cases h; exact ⟨d1, rfl, rfl⟩

end Device

end Machine

end Sys2Proof
end

