-- ==== Sys2Proof/Laws/Ending.lean ====
section
/-! SUPPORT. How an instruction ends: the machine's `advance` and `jumpTo`, which compute on words, are the statements'
`past` and `jumped`, which compute on numbers; and the targets of 41_branch.md R250 as numbers. -/

namespace Sys2Proof.Machine

namespace Device

/-- Passing n words, by numbers. -/
theorem advance_eq_past {c : Config} {d : Device} {w : ProgAddr} {n k : Nat} (hw : w.toNat = n) :
    d.advance c w k = d.past c n k := by
  unfold advance past nextPc
  congr 1
  apply BitVec.eq_of_toNat_eq
  rw [Config.wrapPc_toNat, BitVec.toNat_add, BitVec.toNat_ofNat, hw]
  rcases c.pcModulus_cases with h | h
  · rw [h]; omega
  · rw [h]

@[simp] theorem advance_one (c : Config) (d : Device) (k : Nat) : d.advance c 1#17 k = d.past c 1 k :=
  advance_eq_past rfl

@[simp] theorem advance_two (c : Config) (d : Device) (k : Nat) : d.advance c 2#17 k = d.past c 2 k :=
  advance_eq_past rfl

/-- A transfer to n, by numbers. -/
theorem jumpTo_eq_jumped {d : Device} {t : ProgAddr} {n k : Nat} (h : t.toNat = n) : d.jumpTo t k = d.jumped n k := by
  unfold jumpTo jumped
  congr 1
  apply BitVec.eq_of_toNat_eq
  rw [h, BitVec.toNat_ofNat, Nat.mod_eq_of_lt (h ▸ t.isLt)]

/-- A relative target is pc + 1 + k modulo M, exactly. -/
theorem relTarget_toNat (c : Config) (d : Device) {n : Nat} (k : BitVec n) (hn : n ≤ 17) :
    (d.relTarget c k).toNat = (((d.pc.toNat : Int) + 1 + k.toInt) % (c.pcModulus : Int)).toNat := by
  unfold relTarget
  rw [Config.wrapPc_toNat, BitVec.toNat_add, BitVec.toNat_add]
  have h1 : (k.signExtend 17).toInt = k.toInt := by rw [BitVec.toInt_signExtend_of_le hn]
  have h2 : ((k.signExtend 17).toNat : Int) = k.toInt % 131072 := by
    have := (k.signExtend 17).isLt
    have h4 := BitVec.toInt_eq_toNat_cond (k.signExtend 17)
    rw [← h1, h4]
    split_ifs <;> push_cast <;> omega
  have h3 : (1 : ProgAddr).toNat = 1 := rfl
  rcases c.pcModulus_cases with h | h <;> rw [h, h3] <;> push_cast <;> omega

/-- `{EIND[0], Z}` as a number. -/
theorem extTarget_toNat (d : Device) : d.extTarget = 65536 * (d.ctl.eind.toNat % 2) + (d.ptr .z).toNat := by
  unfold extTarget
  rw [BitVec.toNat_append, BitVec.extractLsb'_toNat, (Nat.shiftLeft_add_eq_or_of_lt (d.ptr .z).isLt _).symm]
  simp [Nat.shiftLeft_eq]
  omega

/-- `{RAMPZ[1:0], Z}` as a number. -/
theorem extAddr_toNat (d : Device) : d.extAddr.toNat = 65536 * (d.ctl.rampz.toNat % 4) + (d.ptr .z).toNat := by
  unfold extAddr
  rw [BitVec.toNat_append, BitVec.extractLsb'_toNat, (Nat.shiftLeft_add_eq_or_of_lt (d.ptr .z).isLt _).symm]
  simp [Nat.shiftLeft_eq]
  omega

end Device

/-- Every instruction's meaning retires an effect of the Device under study: `.ok` of the Device it leaves, or the
fault that halts it. -/
theorem exec_retires (i : Instr) (s : State) : ∃ e, exec i s = s.retire e := by
  cases i <;> simp only [exec,
    execAdc, execAdd, execAdiw, execAnd, execAndi, execAsr, execBclr, execBld, execBrbc, execBrbs,
    execBreak, execBset, execBst, execCall, execCbi, execCom, execCp, execCpc, execCpi, execCpse, execDec,
    execEicall, execEijmp, execElpm, execElpmZ, execElpmZInc, execEor, execFmul, execFmuls, execFmulsu,
    execIcall, execIjmp, execIn, execInc, execJmp, execLdDecX, execLdDecY, execLdDecZ, execLdX, execLdXInc,
    execLdY, execLdYInc, execLdZ, execLdZInc, execLddY, execLddZ, execLdi, execLds, execLpm, execLpmZ,
    execLpmZInc, execLsr, execMov, execMovw, execMul, execMuls, execMulsu, execNeg, execNop, execOr,
    execOri, execOut, execPop, execPush, execRcall, execRet, execReti, execRjmp, execRor, execSbc, execSbci,
    execSbi, execSbic, execSbis, execSbiw, execSbrc, execSbrs, execSleep, execSpm, execStDecX, execStDecY,
    execStDecZ, execStX, execStXInc, execStY, execStYInc, execStZ, execStZInc, execStdY, execStdZ, execSts,
    execSub, execSubi, execSwap, execWdr, State.aluWrite, State.sregWrite, State.pairWrite, State.mulWrite,
    State.branchIf, State.idleOne] <;>
    exact ⟨_, rfl⟩

end Sys2Proof.Machine
end

