-- ==== Sys2Proof/Laws/Io.lean ====
section
/-! SUPPORT. What accesses to the I/O window can change: one lemma for a read, one for a write, one for the level of
an endpoint on no wire. -/

namespace Sys2Proof.Machine

namespace Device

/-- A read changes USART0 when it is of UDR0, and the model's own draw counter when it is of PINx (R94). -/
theorem afterIoRead_frame (d : Device) (r : IoReg) :
    d.afterIoRead r = { d with usart := (d.afterIoRead r).usart, draws := (d.afterIoRead r).draws } ∧
    (r ≠ .udr0 → (d.afterIoRead r).usart = d.usart) := by
  cases r <;> exact ⟨rfl, by first | exact fun _ => rfl | exact fun h => absurd rfl h⟩

/-- A mapped effect that succeeds is the map of a result. -/
theorem map_ok {α β : Type} {e : Except FaultDetail α} {f : α → β} {x : β} (h : e.map f = .ok x) : ∃ a, x = f a := by
  cases e with
  | error _ => cases h
  | ok a => cases h; exact ⟨a, rfl⟩

/-- A write to a register changes nothing outside the unit the register belongs to, but for the model's own draw
counter (R92). -/
theorem ioStore_frame {d x : Device} {v mask : Byte} {r : IoReg} (h : d.ioStore v mask r = .ok x) :
    (r.unit = .timer → x = { d with timer := x.timer, draws := x.draws }) ∧
    (r.unit = .usart → x = { d with usart := x.usart }) ∧
    (∀ p, r.unit = .port p → ∃ q, x = d.setPortRegs p q) ∧
    (r.unit = .core → x = { d with ctl := x.ctl, sp := x.sp, sreg := x.sreg }) := by
  cases r with
  | pin p | ddr p | port p =>
    cases h
    exact ⟨nofun, nofun, fun q hq => by cases hq; exact ⟨_, rfl⟩, nofun⟩
  | tccr0a | tccr0b =>
    obtain ⟨_, rfl⟩ := map_ok h
    exact ⟨fun _ => rfl, nofun, nofun, nofun⟩
  | tifr0 | tcnt0 | ocr0a | ocr0b | timsk0 => cases h; exact ⟨fun _ => rfl, nofun, nofun, nofun⟩
  | ucsr0a | ucsr0b | ucsr0c =>
    obtain ⟨_, rfl⟩ := map_ok h
    exact ⟨nofun, fun _ => rfl, nofun, nofun⟩
  | ubrr0l | ubrr0h | udr0 => cases h; exact ⟨nofun, fun _ => rfl, nofun, nofun⟩
  | mcucr =>
    simp only [ioStore, writeMcucr] at h
    split at h
    · cases h
    · cases h; exact ⟨nofun, nofun, nofun, fun _ => rfl⟩
  | gpior0 | gpior1 | gpior2 | smcr | rampz | eind | spl | sph | sreg =>
    cases h; exact ⟨nofun, nofun, nofun, fun _ => rfl⟩

end Device

/-- An endpoint that no wire joins has the level of its own drive (R513, R521). -/
theorem State.level_unwired {s : State} {e : Endpoint} (h : ∀ w ∈ s.wires, w.joins e = false) :
    s.level e = (s.drive e).level := by
  unfold State.level
  rw [List.find?_eq_none.mpr (by simpa using h)]

end Sys2Proof.Machine
end

