-- ==== Sys2Proof/Tests/Slice0.lean ====
section
/-! SUPPORT. Tests and witnesses. The expected values come from spec/95_test_vectors.md (a test names its vector) or are
worked out by hand from the rule the test names; the encodings from 30_encoding.md and the opcode table. -/

namespace Sys2Proof.Tests

open Sys2Proof Sys2Proof.Machine

/-! ### WellFormed refuses what no encoding can carry (R125 to R141) -/

theorem test_illformed_adiw_low_register : Instr.WellFormed (.adiw 22 1) = false := by decide
theorem test_illformed_adiw_odd_register : Instr.WellFormed (.adiw 25 1) = false := by decide
theorem test_illformed_sbiw_low_register : Instr.WellFormed (.sbiw 16 1) = false := by decide
theorem test_illformed_subi_low_register : Instr.WellFormed (.subi 15 0) = false := by decide
theorem test_illformed_ldi_low_register : Instr.WellFormed (.ldi 0 0xFF) = false := by decide
theorem test_illformed_muls_low_register : Instr.WellFormed (.muls 16 15) = false := by decide
theorem test_illformed_mulsu_high_register : Instr.WellFormed (.mulsu 24 16) = false := by decide
theorem test_illformed_fmul_high_register : Instr.WellFormed (.fmul 16 24) = false := by decide
theorem test_illformed_movw_odd_register : Instr.WellFormed (.movw 1 2) = false := by decide
theorem test_illformed_movw_odd_source : Instr.WellFormed (.movw 2 1) = false := by decide
theorem test_illformed_ld_x_inc_own_low : Instr.WellFormed (.ldXInc 26) = false := by decide
theorem test_illformed_ld_dec_x_own_high : Instr.WellFormed (.ldDecX 27) = false := by decide
theorem test_illformed_st_y_inc_own_low : Instr.WellFormed (.stYInc 28) = false := by decide
theorem test_illformed_st_dec_z_own_high : Instr.WellFormed (.stDecZ 31) = false := by decide
theorem test_illformed_lpm_z_inc_own : Instr.WellFormed (.lpmZInc 30) = false := by decide
theorem test_illformed_elpm_z_inc_own : Instr.WellFormed (.elpmZInc 31) = false := by decide
theorem test_illformed_ldd_zero_offset : Instr.WellFormed (.lddY 5 0) = false := by decide
theorem test_illformed_std_zero_offset : Instr.WellFormed (.stdZ 0 5) = false := by decide

/-! ### Decoding: a word of every row, written out from its encoding, with both ends of each operand's range over the
rows of a format -/

theorem test_decode_rr :
    decodeWords 0b0000110101011010 0 = some (.add 21 10) ∧
    decodeWords 0b0001110111110000 0 = some (.adc 31 0) ∧
    decodeWords 0b0001101000001111 0 = some (.sub 0 31) ∧
    decodeWords 0b0000101000010000 0 = some (.sbc 1 16) ∧
    decodeWords 0b0010000100001111 0 = some (.and 16 15) ∧
    decodeWords 0b0010101011110001 0 = some (.or 15 17) ∧
    decodeWords 0b0010011010100101 0 = some (.eor 10 21) ∧
    decodeWords 0b1001111001011010 0 = some (.mul 5 26) ∧
    decodeWords 0b0001001000111100 0 = some (.cpse 3 28) ∧
    decodeWords 0b0001010111010010 0 = some (.cp 29 2) ∧
    decodeWords 0b0000011000101110 0 = some (.cpc 2 30) ∧
    decodeWords 0b0010111000001111 0 = some (.mov 0 31) := by decide

theorem test_decode_iw :
    decodeWords 0b1001011010111101 0 = some (.adiw 30 45) ∧
    decodeWords 0b1001011111001111 0 = some (.sbiw 24 63) := by decide

theorem test_decode_rk :
    decodeWords 0b0101101000000101 0 = some (.subi 16 0xA5) ∧
    decodeWords 0b0100000011111111 0 = some (.sbci 31 0x0F) ∧
    decodeWords 0b0111111101100000 0 = some (.andi 22 0xF0) ∧
    decodeWords 0b0110000010010001 0 = some (.ori 25 1) ∧
    decodeWords 0b0011010100011010 0 = some (.cpi 17 0x5A) ∧
    decodeWords 0b1110110010100011 0 = some (.ldi 26 0xC3) := by decide

theorem test_decode_r1 :
    decodeWords 0b1001010100010000 0 = some (.com 17) ∧
    decodeWords 0b1001010111100001 0 = some (.neg 30) ∧
    decodeWords 0b1001010000000011 0 = some (.inc 0) ∧
    decodeWords 0b1001010111111010 0 = some (.dec 31) ∧
    decodeWords 0b1001010101010110 0 = some (.lsr 21) ∧
    decodeWords 0b1001010010100111 0 = some (.ror 10) ∧
    decodeWords 0b1001010100000101 0 = some (.asr 16) ∧
    decodeWords 0b1001010011110010 0 = some (.swap 15) := by decide

theorem test_decode_muls :
    decodeWords 0b0000001000101101 0 = some (.muls 18 29) := by decide

theorem test_decode_mul3 :
    decodeWords 0b0000001101100001 0 = some (.mulsu 22 17) ∧
    decodeWords 0b0000001100011110 0 = some (.fmul 17 22) ∧
    decodeWords 0b0000001111110000 0 = some (.fmuls 23 16) ∧
    decodeWords 0b0000001110001111 0 = some (.fmulsu 16 23) := by decide

theorem test_decode_rel :
    decodeWords 0b1100100000000001 0 = some (.rjmp 0x801) ∧
    decodeWords 0b1101011111111110 0 = some (.rcall 0x7FE) := by decide

theorem test_decode_n_a :
    decodeWords 0b1001010000001001 0 = some (.ijmp) ∧
    decodeWords 0b1001010000011001 0 = some (.eijmp) ∧
    decodeWords 0b1001010100001001 0 = some (.icall) ∧
    decodeWords 0b1001010100011001 0 = some (.eicall) ∧
    decodeWords 0b1001010100001000 0 = some (.ret) ∧
    decodeWords 0b1001010100011000 0 = some (.reti) ∧
    decodeWords 0b1001010111001000 0 = some (.lpm) ∧
    decodeWords 0b1001010111011000 0 = some (.elpm) ∧
    decodeWords 0b1001010111101000 0 = some (.spm) ∧
    decodeWords 0b0000000000000000 0 = some (.nop) ∧
    decodeWords 0b1001010110001000 0 = some (.sleep) ∧
    decodeWords 0b1001010110101000 0 = some (.wdr) := by decide

theorem test_decode_n_b :
    decodeWords 0b1001010110011000 0 = some (.brk) := by decide

theorem test_decode_jc :
    decodeWords 0b1001010101011100 0b0001001000110100 = some (.jmp 0x2A1234) ∧
    decodeWords 0b1001010010101111 0b1000000000000001 = some (.call 0x158001) := by decide

theorem test_decode_rb :
    decodeWords 0b1111110100110101 0 = some (.sbrc 19 5) ∧
    decodeWords 0b1111111011000010 0 = some (.sbrs 12 2) ∧
    decodeWords 0b1111101110000110 0 = some (.bst 24 6) ∧
    decodeWords 0b1111100001110001 0 = some (.bld 7 1) := by decide

theorem test_decode_iob :
    decodeWords 0b1001100110110001 0 = some (.sbic 0x16 1) ∧
    decodeWords 0b1001101101001110 0 = some (.sbis 9 6) ∧
    decodeWords 0b1001101011110100 0 = some (.sbi 0x1E 4) ∧
    decodeWords 0b1001100000001011 0 = some (.cbi 1 3) := by decide

theorem test_decode_br :
    decodeWords 0b1111001000001101 0 = some (.brbs 5 0x41) ∧
    decodeWords 0b1111010111110010 0 = some (.brbc 2 0x3E) := by decide

theorem test_decode_movw :
    decodeWords 0b0000000100011110 0 = some (.movw 2 28) := by decide

theorem test_decode_lds :
    decodeWords 0b1001000101000000 0b0010000111111110 = some (.lds 20 0x21FE) ∧
    decodeWords 0b1001001010110000 0b0000000100000000 = some (.sts 0x0100 11) := by decide

theorem test_decode_ldst_a :
    decodeWords 0b1001000110101100 0 = some (.ldX 26) ∧
    decodeWords 0b1001000110011101 0 = some (.ldXInc 25) ∧
    decodeWords 0b1001000111001110 0 = some (.ldDecX 28) ∧
    decodeWords 0b1001000111101001 0 = some (.ldYInc 30) ∧
    decodeWords 0b1001000110111010 0 = some (.ldDecY 27) ∧
    decodeWords 0b1001000111010001 0 = some (.ldZInc 29) ∧
    decodeWords 0b1001000000000010 0 = some (.ldDecZ 0) ∧
    decodeWords 0b1001001110111100 0 = some (.stX 27) ∧
    decodeWords 0b1001001110001101 0 = some (.stXInc 24) ∧
    decodeWords 0b1001001111011110 0 = some (.stDecX 29) ∧
    decodeWords 0b1001001111111001 0 = some (.stYInc 31) ∧
    decodeWords 0b1001001110101010 0 = some (.stDecY 26) := by decide

theorem test_decode_ldst_b :
    decodeWords 0b1001001111000001 0 = some (.stZInc 28) ∧
    decodeWords 0b1001001000010010 0 = some (.stDecZ 1) ∧
    decodeWords 0b1001000111100100 0 = some (.lpmZ 30) ∧
    decodeWords 0b1001000111010101 0 = some (.lpmZInc 29) ∧
    decodeWords 0b1001000111110110 0 = some (.elpmZ 31) ∧
    decodeWords 0b1001000000100111 0 = some (.elpmZInc 2) ∧
    decodeWords 0b1001001111111111 0 = some (.push 31) ∧
    decodeWords 0b1001000000001111 0 = some (.pop 0) := by decide

theorem test_decode_lddq :
    decodeWords 0b1000000111001000 0 = some (.ldY 28) ∧
    decodeWords 0b1010010010011101 0 = some (.lddY 9 0x2D) ∧
    decodeWords 0b1000000111110000 0 = some (.ldZ 31) ∧
    decodeWords 0b1000100101100010 0 = some (.lddZ 22 0x12) ∧
    decodeWords 0b1000001111011000 0 = some (.stY 29) ∧
    decodeWords 0b1010101001101001 0 = some (.stdY 0x31 6) ∧
    decodeWords 0b1000001111100000 0 = some (.stZ 30) ∧
    decodeWords 0b1000011110010110 0 = some (.stdZ 0x0E 25) := by decide

theorem test_decode_io :
    decodeWords 0b1011010011011010 0 = some (.ioIn 13 0x2A) ∧
    decodeWords 0b1011101100100101 0 = some (.ioOut 0x15 18) := by decide

theorem test_decode_s :
    decodeWords 0b1001010001011000 0 = some (.bset 5) ∧
    decodeWords 0b1001010010101000 0 = some (.bclr 2) := by decide

/-- The q = 0 words of the displacement rows are LD Y, LD Z, ST Y and ST Z (R123). -/
theorem test_decode_q_zero :
    decodeWords 0b1000000000011000 0 = some (.ldY 1) ∧ decodeWords 0b1000000000010000 0 = some (.ldZ 1) ∧
    decodeWords 0b1000001000011000 0 = some (.stY 1) ∧ decodeWords 0b1000001000010000 0 = some (.stZ 1) := by decide

/-- Words of no row, and the undefined pointer forms (R140, R141; V-ILL-0001, FFFF, 91AD, 93AD, 95F8, FF08). -/
theorem test_decode_illegal :
    decodeWords 0x0001 0 = none ∧ decodeWords 0xFFFF 0 = none ∧ decodeWords 0x91AD 0 = none ∧
    decodeWords 0x93AD 0 = none ∧ decodeWords 0x95F8 0 = none ∧ decodeWords 0xFF08 0 = none := by decide

/-- Words in program memory are little-endian, and a lone byte or a missing second word is refused (R100). -/
theorem test_decode_bytes :
    decode [0x01, 0x0F, 0xAA] = .ok (.add 16 17, [0xAA]) ∧
    decode [0x0C, 0x94, 0x34, 0x12] = .ok (.jmp 0x1234, []) ∧
    (∃ e, decode [0x01] = .error e) ∧ (∃ e, decode [0x0C, 0x94, 0x34] = .error e) :=
  ⟨rfl, rfl, ⟨_, rfl⟩, ⟨_, rfl⟩⟩

/-- The numbering of the opcode table: a second word in bits 31 to 16, and zeros above `nbits`. -/
theorem test_decode_table_word :
    decodeTableWord 16 0x0F01 = some (.add 16 17) ∧ decodeTableWord 32 0x1234940C = some (.jmp 0x1234) ∧
    decodeTableWord 16 0x940C = some (.jmp 0) := by decide

/-! ### A small machine -/

/-- Program bytes of words (R100). -/
def bytesOf (words : List Nat) : List Byte := words.flatMap fun w => [BitVec.ofNat 8 w, BitVec.ofNat 8 (w / 256)]

/-- The reset state with words at word address `pc`, SREG and some registers. -/
def at_ (pc : Nat) (words : List Nat) (sreg : Byte) (regs : List (Nat × Byte)) : State :=
  { State.reset with
    dev := regs.foldl (fun d x => d.setReg (Fin.ofNat 32 x.1) x.2)
      { State.reset.dev with
        prog := Memory.writeBytes .program [] (2 * pc) (bytesOf words)
        pc := BitVec.ofNat 17 pc
        sreg := sreg } }

/-- The same with words at 0. -/
def setup (words : List Nat) (sreg : Byte) (regs : List (Nat × Byte)) : State := at_ 0 words sreg regs

/-- A state with its Device under study changed. -/
def onDev (f : Device → Device) (s : State) : State := { s with dev := f s.dev }

/-- SP as given. -/
def withSp (sp : Word) : State → State := onDev fun d => d.setSp sp

/-- Bytes of SRAM as given. -/
def withMem (cells : List (Nat × Byte)) : State → State := onDev fun d =>
  cells.foldl (fun d x => d.setSramByte x.1 x.2) d

/-- RAMPZ and EIND as given. -/
def withExt (rampz eind : Byte) : State → State := onDev fun d => d.setCtl { d.ctl with rampz := rampz, eind := eind }

/-- `PC_BITS` = 17. -/
def wide (s : State) : State := { s with cfg := { s.cfg with pcBits := .w17 } }

/-- `PROG_BYTES` as given. -/
def short (n : Nat) (s : State) : State := { s with cfg := { s.cfg with progBytes := n } }

/-- The Device under study after a step. -/
def stepped (s : State) : Option Device :=
  match step s with
  | .next t => some t.dev
  | .fault _ | .refused _ => none

/-- After a step: some registers, some SRAM bytes, SREG, pc, T and SP. -/
def seen (s : State) (regs mem : List Nat) : Option (List Nat × List Nat × Nat × Nat × Nat × Nat) :=
  (stepped s).map fun d =>
    (regs.map fun r => (d.reg (Fin.ofNat 32 r)).toNat, mem.map fun a => (d.sramByte a).toNat,
      d.sreg.toNat, d.pc.toNat, d.time, d.sp.toNat)

/-- The fault a step halts the Device with: its pc, T and detail. -/
def halted (s : State) : Option (Nat × Nat × FaultDetail) :=
  (stepped s).bind fun d =>
    match d.mode with
    | .halted r => some (r.pc.toNat, r.time, r.detail)
    | .running | .sleeping => none

/-- After a step, the registers, and whether `inhibit` is set. -/
def inhibited (s : State) : Option Bool := (stepped s).map (·.inhibit)

/-- The run after n steps. -/
def runFor : Nat → State → State
  | 0, s => s
  | n + 1, s =>
    match step s with
    | .next t => runFor n t
    | .fault _ | .refused _ => s

/-! ### Instructions: the vectors of spec/95_test_vectors.md section 2, each one step -/

/-- V-ADD-1 -/
theorem test_add_1 :
    seen (setup [0x0F01] 0x00 [(16, 0xFF), (17, 0x01)]) [16] [] =
      some ([0x00], [], 0x23, 0x0001, 1, 0x21FF) := by decide

/-- V-ADD-5 -/
theorem test_add_5 :
    seen (setup [0x0F01] 0xFF [(16, 0x12), (17, 0x34)]) [16] [] =
      some ([0x46], [], 0xC0, 0x0001, 1, 0x21FF) := by decide

/-- V-ADC-1 -/
theorem test_adc_1 :
    seen (setup [0x1F01] 0x01 [(16, 0xFF), (17, 0x00)]) [16] [] =
      some ([0x00], [], 0x23, 0x0001, 1, 0x21FF) := by decide

/-- V-ADC-3 -/
theorem test_adc_3 :
    seen (setup [0x1F00] 0x01 [(16, 0x80)]) [16] [] =
      some ([0x01], [], 0x19, 0x0001, 1, 0x21FF) := by decide

/-- V-ADIW-1 -/
theorem test_adiw_1 :
    seen (setup [0x9601] 0x00 [(24, 0xFF), (25, 0xFF)]) [24, 25] [] =
      some ([0x00, 0x00], [], 0x03, 0x0001, 2, 0x21FF) := by decide

/-- V-ADIW-2 -/
theorem test_adiw_2 :
    seen (setup [0x96CF] 0x00 [(24, 0xFF), (25, 0x7F)]) [24, 25] [] =
      some ([0x3E, 0x80], [], 0x0C, 0x0001, 2, 0x21FF) := by decide

/-- V-SUB-2 -/
theorem test_sub_2 :
    seen (setup [0x1B01] 0x00 [(16, 0x80), (17, 0x01)]) [16] [] =
      some ([0x7F], [], 0x38, 0x0001, 1, 0x21FF) := by decide

/-- V-SUBI-2 -/
theorem test_subi_2 :
    seen (setup [0x5FFF] 0x00 [(31, 0x00)]) [31] [] =
      some ([0x01], [], 0x21, 0x0001, 1, 0x21FF) := by decide

/-- V-SBC-1 -/
theorem test_sbc_1 :
    seen (setup [0x0B01] 0x02 [(16, 0x00), (17, 0x00)]) [16] [] =
      some ([0x00], [], 0x02, 0x0001, 1, 0x21FF) := by decide

/-- V-SBC-2 -/
theorem test_sbc_2 :
    seen (setup [0x0B01] 0x00 [(16, 0x00), (17, 0x00)]) [16] [] =
      some ([0x00], [], 0x00, 0x0001, 1, 0x21FF) := by decide

/-- V-SBCI-1 -/
theorem test_sbci_1 :
    seen (setup [0x4010] 0x03 [(17, 0x01)]) [17] [] =
      some ([0x00], [], 0x02, 0x0001, 1, 0x21FF) := by decide

/-- V-SBIW-1 -/
theorem test_sbiw_1 :
    seen (setup [0x9701] 0x00 [(24, 0x00), (25, 0x00)]) [24, 25] [] =
      some ([0xFF, 0xFF], [], 0x15, 0x0001, 2, 0x21FF) := by decide

/-- V-SBIW-2 -/
theorem test_sbiw_2 :
    seen (setup [0x9701] 0x00 [(24, 0x00), (25, 0x80)]) [24, 25] [] =
      some ([0xFF, 0x7F], [], 0x18, 0x0001, 2, 0x21FF) := by decide

/-- V-AND-1 -/
theorem test_and_1 :
    seen (setup [0x2301] 0x1F [(16, 0xF0), (17, 0x0F)]) [16] [] =
      some ([0x00], [], 0x03, 0x0001, 1, 0x21FF) := by decide

/-- V-ANDI-1 -/
theorem test_andi_1 :
    seen (setup [0x7800] 0x00 [(16, 0xFF)]) [16] [] =
      some ([0x80], [], 0x14, 0x0001, 1, 0x21FF) := by decide

/-- V-OR-1 -/
theorem test_or_1 :
    seen (setup [0x2B01] 0x08 [(16, 0x00), (17, 0x00)]) [16] [] =
      some ([0x00], [], 0x02, 0x0001, 1, 0x21FF) := by decide

/-- V-ORI-1 -/
theorem test_ori_1 :
    seen (setup [0x6801] 0x00 [(16, 0x00)]) [16] [] =
      some ([0x81], [], 0x14, 0x0001, 1, 0x21FF) := by decide

/-- V-EOR-1 -/
theorem test_eor_1 :
    seen (setup [0x2700] 0x15 [(16, 0xA5)]) [16] [] =
      some ([0x00], [], 0x03, 0x0001, 1, 0x21FF) := by decide

/-- V-COM-1 -/
theorem test_com_1 :
    seen (setup [0x9500] 0x00 [(16, 0x00)]) [16] [] =
      some ([0xFF], [], 0x15, 0x0001, 1, 0x21FF) := by decide

/-- V-NEG-2 -/
theorem test_neg_2 :
    seen (setup [0x9501] 0x00 [(16, 0x80)]) [16] [] =
      some ([0x80], [], 0x0D, 0x0001, 1, 0x21FF) := by decide

/-- V-NEG-3 -/
theorem test_neg_3 :
    seen (setup [0x9501] 0x00 [(16, 0x01)]) [16] [] =
      some ([0xFF], [], 0x35, 0x0001, 1, 0x21FF) := by decide

/-- V-INC-1 -/
theorem test_inc_1 :
    seen (setup [0x9503] 0x01 [(16, 0x7F)]) [16] [] =
      some ([0x80], [], 0x0D, 0x0001, 1, 0x21FF) := by decide

/-- V-DEC-1 -/
theorem test_dec_1 :
    seen (setup [0x950A] 0x00 [(16, 0x80)]) [16] [] =
      some ([0x7F], [], 0x18, 0x0001, 1, 0x21FF) := by decide

/-- V-DEC-2 -/
theorem test_dec_2 :
    seen (setup [0x950A] 0x01 [(16, 0x00)]) [16] [] =
      some ([0xFF], [], 0x15, 0x0001, 1, 0x21FF) := by decide

/-- V-MUL-1 -/
theorem test_mul_1 :
    seen (setup [0x9F01] 0x00 [(16, 0xFF), (17, 0xFF)]) [1, 0] [] =
      some ([0xFE, 0x01], [], 0x01, 0x0001, 2, 0x21FF) := by decide

/-- V-MUL-2 -/
theorem test_mul_2 :
    seen (setup [0x9F01] 0x3C [(16, 0x00), (17, 0x37)]) [1, 0] [] =
      some ([0x00, 0x00], [], 0x3E, 0x0001, 2, 0x21FF) := by decide

/-- V-MULS-2 -/
theorem test_muls_2 :
    seen (setup [0x0201] 0x00 [(16, 0x80), (17, 0x7F)]) [1, 0] [] =
      some ([0xC0, 0x80], [], 0x01, 0x0001, 2, 0x21FF) := by decide

/-- V-MULSU-1 -/
theorem test_mulsu_1 :
    seen (setup [0x0301] 0x00 [(16, 0xFF), (17, 0xFF)]) [1, 0] [] =
      some ([0xFF, 0x01], [], 0x01, 0x0001, 2, 0x21FF) := by decide

/-- V-FMUL-2 -/
theorem test_fmul_2 :
    seen (setup [0x0309] 0x00 [(16, 0xFF), (17, 0xFF)]) [1, 0] [] =
      some ([0xFC, 0x02], [], 0x01, 0x0001, 2, 0x21FF) := by decide

/-- V-FMULS-1 -/
theorem test_fmuls_1 :
    seen (setup [0x0381] 0x00 [(16, 0x80), (17, 0x80)]) [1, 0] [] =
      some ([0x80, 0x00], [], 0x00, 0x0001, 2, 0x21FF) := by decide

/-- V-FMULS-2 -/
theorem test_fmuls_2 :
    seen (setup [0x0381] 0x00 [(16, 0xC0), (17, 0x40)]) [1, 0] [] =
      some ([0xE0, 0x00], [], 0x01, 0x0001, 2, 0x21FF) := by decide

/-- V-FMULSU-1 -/
theorem test_fmulsu_1 :
    seen (setup [0x0389] 0x00 [(16, 0x80), (17, 0xFF)]) [1, 0] [] =
      some ([0x01, 0x00], [], 0x01, 0x0001, 2, 0x21FF) := by decide

/-- V-LSR-1 -/
theorem test_lsr_1 :
    seen (setup [0x9506] 0x00 [(16, 0x01)]) [16] [] =
      some ([0x00], [], 0x1B, 0x0001, 1, 0x21FF) := by decide

/-- V-ROR-1 -/
theorem test_ror_1 :
    seen (setup [0x9507] 0x01 [(16, 0x00)]) [16] [] =
      some ([0x80], [], 0x0C, 0x0001, 1, 0x21FF) := by decide

/-- V-ASR-1 -/
theorem test_asr_1 :
    seen (setup [0x9505] 0x00 [(16, 0x81)]) [16] [] =
      some ([0xC0], [], 0x15, 0x0001, 1, 0x21FF) := by decide

/-- V-SWAP-1 -/
theorem test_swap_1 :
    seen (setup [0x9502] 0xFF [(16, 0x12)]) [16] [] =
      some ([0x21], [], 0xFF, 0x0001, 1, 0x21FF) := by decide

/-- V-BSET-1 -/
theorem test_bset_1 :
    seen (setup [0x9468] 0x00 []) [] [] =
      some ([], [], 0x40, 0x0001, 1, 0x21FF) := by decide

/-- V-BCLR-1 -/
theorem test_bclr_1 :
    seen (setup [0x9488] 0xFF []) [] [] =
      some ([], [], 0xFE, 0x0001, 1, 0x21FF) := by decide

/-- V-SEI-1 -/
theorem test_sei_1 :
    seen (setup [0x9478] 0x00 []) [] [] =
      some ([], [], 0x80, 0x0001, 1, 0x21FF) ∧
    inhibited (setup [0x9478] 0x00 []) = some true := by decide

/-- V-BST-1 -/
theorem test_bst_1 :
    seen (setup [0xFB07] 0x00 [(16, 0x80)]) [] [] =
      some ([], [], 0x40, 0x0001, 1, 0x21FF) := by decide

/-- V-BLD-1 -/
theorem test_bld_1 :
    seen (setup [0xF903] 0x40 [(16, 0x00)]) [16] [] =
      some ([0x08], [], 0x40, 0x0001, 1, 0x21FF) := by decide

/-- V-BLD-2 -/
theorem test_bld_2 :
    seen (setup [0xF907] 0x00 [(16, 0xFF)]) [16] [] =
      some ([0x7F], [], 0x00, 0x0001, 1, 0x21FF) := by decide

/-- V-RJMP-3 -/
theorem test_rjmp_3 :
    seen (setup [0xC800] 0x00 []) [] [] =
      some ([], [], 0x00, 0xF801, 2, 0x21FF) := by decide

/-- V-RJMP-4 -/
theorem test_rjmp_4 :
    seen (at_ 0xFFFF [0xC000] 0x00 []) [] [] =
      some ([], [], 0x00, 0x0000, 2, 0x21FF) := by decide

/-- V-IJMP-1 -/
theorem test_ijmp_1 :
    seen (setup [0x9409] 0x00 [(30, 0x34), (31, 0x12)]) [] [] =
      some ([], [], 0x00, 0x1234, 2, 0x21FF) := by decide

/-- V-EIJMP-1 -/
theorem test_eijmp_1 :
    halted (withExt 0 1 (setup [0x9419] 0x00 [(30, 0x34), (31, 0x12)])) = some (0, 0, .bus .fetch 0x22468) := by decide

/-- V-EIJMP-2 -/
theorem test_eijmp_2 :
    seen (wide (withExt 0 1 (setup [0x9419] 0x00 [(30, 0x34), (31, 0x12)]))) [] [] =
      some ([], [], 0x00, 0x11234, 2, 0x21FF) := by decide

/-- V-JMP-2 -/
theorem test_jmp_2 :
    halted (setup [0x940D, 0xFFFF] 0x00 []) = some (0, 0, .bus .fetch 0x3FFFE) := by decide

/-- V-JMP-3 -/
theorem test_jmp_3 :
    seen (wide (setup [0x940D, 0xFFFF] 0x00 [])) [] [] =
      some ([], [], 0x00, 0x1FFFF, 3, 0x21FF) := by decide

/-- V-RCALL-1 -/
theorem test_rcall_1 :
    seen (at_ 0x0100 [0xD000] 0x00 []) [] [0x21FE, 0x21FF] =
      some ([], [0x01, 0x01], 0x00, 0x0101, 3, 0x21FD) := by decide

/-- V-RCALL-2 -/
theorem test_rcall_2 :
    seen (wide (setup [0xD000] 0x00 [])) [] [0x21FD, 0x21FE, 0x21FF] =
      some ([], [0x00, 0x00, 0x01], 0x00, 0x0001, 4, 0x21FC) := by decide

/-- V-CALL-1 -/
theorem test_call_1 :
    seen (setup [0x940E, 0x0040] 0x00 []) [] [0x21FE, 0x21FF] =
      some ([], [0x00, 0x02], 0x00, 0x0040, 4, 0x21FD) := by decide

/-- V-CALL-2 -/
theorem test_call_2 :
    halted (withSp 0x0200 (setup [0x940E, 0x0040] 0x00 [])) = some (0, 0, .stack .push 0x01FF) := by decide

/-- V-ICALL-1 -/
theorem test_icall_1 :
    seen (setup [0x9509] 0x00 [(30, 0x00), (31, 0x01)]) [] [0x21FE, 0x21FF] =
      some ([], [0x00, 0x01], 0x00, 0x0100, 3, 0x21FD) := by decide

/-- V-EICALL-1 -/
theorem test_eicall_1 :
    seen (wide (withExt 0 1 (setup [0x9519] 0x00 [(30, 0x00), (31, 0x00)]))) [] [0x21FD, 0x21FE, 0x21FF] =
      some ([], [0x00, 0x00, 0x01], 0x00, 0x10000, 4, 0x21FC) := by decide

/-- V-RET-1 -/
theorem test_ret_1 :
    seen (withMem [(0x21FE, 0x12), (0x21FF, 0x34)] (withSp 0x21FD (setup [0x9508] 0x00 []))) [] [] =
      some ([], [], 0x00, 0x1234, 4, 0x21FF) := by decide

/-- V-RET-2 -/
theorem test_ret_2 :
    halted (setup [0x9508] 0x00 []) = some (0, 0, .stack .pop 0x2200) := by decide

/-- V-RETI-1 -/
theorem test_reti_1 :
    seen (withMem [(0x21FE, 0x00), (0x21FF, 0x10)] (withSp 0x21FD (setup [0x9518] 0x00 []))) [] [] =
      some ([], [], 0x80, 0x0010, 4, 0x21FF) ∧
    inhibited (withMem [(0x21FE, 0x00), (0x21FF, 0x10)] (withSp 0x21FD (setup [0x9518] 0x00 []))) = some true := by decide

/-- V-CPSE-2 -/
theorem test_cpse_2 :
    seen (setup [0x1301, 0x940C, 0x0000] 0x00 [(16, 0x05), (17, 0x05)]) [] [] =
      some ([], [], 0x00, 0x0003, 3, 0x21FF) := by decide

/-- V-CPSE-3 -/
theorem test_cpse_3 :
    seen (setup [0x1301] 0x00 [(16, 0x05), (17, 0x06)]) [] [] =
      some ([], [], 0x00, 0x0001, 1, 0x21FF) := by decide

/-- V-CP-1 -/
theorem test_cp_1 :
    seen (setup [0x1701] 0x00 [(16, 0x01), (17, 0x02)]) [16] [] =
      some ([0x01], [], 0x35, 0x0001, 1, 0x21FF) := by decide

/-- V-CPC-1 -/
theorem test_cpc_1 :
    seen (setup [0x0713] 0x02 [(17, 0x12), (19, 0x12)]) [] [] =
      some ([], [], 0x02, 0x0001, 1, 0x21FF) := by decide

/-- V-CPC-2 -/
theorem test_cpc_2 :
    seen (setup [0x0713] 0x00 [(17, 0x12), (19, 0x12)]) [] [] =
      some ([], [], 0x00, 0x0001, 1, 0x21FF) := by decide

/-- V-CPI-1 -/
theorem test_cpi_1 :
    seen (setup [0x3800] 0x00 [(16, 0x7F)]) [] [] =
      some ([], [], 0x0D, 0x0001, 1, 0x21FF) := by decide

/-- V-SBRC-1 -/
theorem test_sbrc_1 :
    seen (setup [0xFD00, 0x0000] 0x00 [(16, 0xFE)]) [] [] =
      some ([], [], 0x00, 0x0002, 2, 0x21FF) := by decide

/-- V-SBRS-1 -/
theorem test_sbrs_1 :
    seen (setup [0xFF07, 0x0000] 0x00 [(16, 0x7F)]) [] [] =
      some ([], [], 0x00, 0x0001, 1, 0x21FF) := by decide

/-- V-SBIS-1 -/
theorem test_sbis_1 :
    seen (onDev (fun d => d.setCtl { d.ctl with gpior0 := 0x01 }) (setup [0x9BF0, 0x0000] 0x00 [])) [] [] =
      some ([], [], 0x00, 0x0002, 2, 0x21FF) := by decide

/-- V-SBIC-1 -/
theorem test_sbic_1 :
    seen (setup [0x99F0, 0x940E, 0x0000] 0x00 []) [] [] =
      some ([], [], 0x00, 0x0003, 3, 0x21FF) := by decide

/-- V-BREQ-1 -/
theorem test_breq_1 :
    seen (setup [0xF029] 0x02 []) [] [] =
      some ([], [], 0x02, 0x0006, 2, 0x21FF) := by decide

/-- V-BREQ-2 -/
theorem test_breq_2 :
    seen (setup [0xF029] 0x00 []) [] [] =
      some ([], [], 0x00, 0x0001, 1, 0x21FF) := by decide

/-- V-BRNE-1 -/
theorem test_brne_1 :
    seen (setup [0xF601] 0x00 []) [] [] =
      some ([], [], 0x00, 0xFFC1, 2, 0x21FF) := by decide

/-- V-BRBC-1 -/
theorem test_brbc_1 :
    seen (setup [0xF7FF] 0x00 []) [] [] =
      some ([], [], 0x00, 0x0000, 2, 0x21FF) := by decide

/-- V-MOV-1 -/
theorem test_mov_1 :
    seen (setup [0x2E0F] 0x00 [(31, 0xAA)]) [0] [] =
      some ([0xAA], [], 0x00, 0x0001, 1, 0x21FF) := by decide

/-- V-MOVW-1 -/
theorem test_movw_1 :
    seen (setup [0x01FC] 0x00 [(24, 0x34), (25, 0x12)]) [30, 31] [] =
      some ([0x34, 0x12], [], 0x00, 0x0001, 1, 0x21FF) := by decide

/-- V-LDI-1 -/
theorem test_ldi_1 :
    seen (setup [0xEFFF] 0x00 []) [31] [] =
      some ([0xFF], [], 0x00, 0x0001, 1, 0x21FF) := by decide

/-- V-LDS-2 -/
theorem test_lds_2 :
    seen (setup [0x9100, 0x0005] 0x00 [(5, 0x77)]) [16] [] =
      some ([0x77], [], 0x00, 0x0002, 2, 0x21FF) := by decide

/-- V-LDS-3 -/
theorem test_lds_3 :
    halted (setup [0x9100, 0x2200] 0x00 []) = some (0, 0, .bus .read 0x2200) := by decide

/-- V-STS-1 -/
theorem test_sts_1 :
    seen (setup [0x9300, 0x21FF] 0x00 [(16, 0x99)]) [] [0x21FF] =
      some ([], [0x99], 0x00, 0x0002, 2, 0x21FF) := by decide

/-- V-STS-2 -/
theorem test_sts_2 :
    seen (setup [0x9300, 0x005D] 0x00 [(16, 0x00)]) [] [] =
      some ([], [], 0x00, 0x0002, 2, 0x2100) := by decide

/-- V-LDX-1 -/
theorem test_ldx_1 :
    seen (withMem [(0x21FF, 0x42)] (setup [0x910D] 0x00 [(26, 0xFF), (27, 0x21)])) [16, 26, 27] [] =
      some ([0x42, 0x00, 0x22], [], 0x00, 0x0001, 2, 0x21FF) := by decide

/-- V-LDY-1 -/
theorem test_ldy_1 :
    seen (withMem [(0x0200, 0x24)] (setup [0x910A] 0x00 [(28, 0x01), (29, 0x02)])) [16, 28, 29] [] =
      some ([0x24, 0x00, 0x02], [], 0x00, 0x0001, 2, 0x21FF) := by decide

/-- V-LDD-1 -/
theorem test_ldd_1 :
    seen (withMem [(0x023F, 0x3F)] (setup [0xAD0F] 0x00 [(28, 0x00), (29, 0x02)])) [16] [] =
      some ([0x3F], [], 0x00, 0x0001, 2, 0x21FF) := by decide

/-- V-LDX-2 -/
theorem test_ldx_2 :
    halted (setup [0x910C] 0x00 [(26, 0xFF), (27, 0xFF)]) = some (0, 0, .bus .read 0xFFFF) := by decide

/-- V-STZ-1 -/
theorem test_stz_1 :
    seen (setup [0x9302] 0x00 [(16, 0xAB), (30, 0x00), (31, 0x22)]) [30, 31] [0x21FF] =
      some ([0xFF, 0x21], [0xAB], 0x00, 0x0001, 2, 0x21FF) := by decide

/-- V-STZ-2 -/
theorem test_stz_2 :
    seen (setup [0x9301] 0x00 [(16, 0xCD), (30, 0x00), (31, 0x02)]) [30, 31] [0x0200] =
      some ([0x01, 0x02], [0xCD], 0x00, 0x0001, 2, 0x21FF) := by decide

/-- V-LPM-1 -/
theorem test_lpm_1 :
    seen (setup [0x95C8] 0x00 [(30, 0x01), (31, 0x00)]) [0] [] =
      some ([0x95], [], 0x00, 0x0001, 3, 0x21FF) := by decide

/-- V-LPM-2 -/
theorem test_lpm_2 :
    seen (setup [0x9105] 0x00 [(30, 0xFF), (31, 0xFF)]) [16, 30, 31] [] =
      some ([0xFF, 0x00, 0x00], [], 0x00, 0x0001, 3, 0x21FF) := by decide

/-- V-ELPM-1 -/
theorem test_elpm_1 :
    seen (setup [0x9107] 0x00 [(30, 0xFF), (31, 0xFF)]) [16, 30, 31] [] =
      some ([0xFF, 0x00, 0x00], [], 0x00, 0x0001, 3, 0x21FF) ∧
    (stepped (setup [0x9107] 0x00 [(30, 0xFF), (31, 0xFF)])).map (·.ctl.rampz) = some 1 := by decide

/-- V-ELPM-2 -/
theorem test_elpm_2 :
    seen (withExt 3 0 (setup [0x9107] 0x00 [(30, 0xFF), (31, 0xFF)])) [16, 30, 31] [] =
      some ([0xFF, 0x00, 0x00], [], 0x00, 0x0001, 3, 0x21FF) ∧
    (stepped (withExt 3 0 (setup [0x9107] 0x00 [(30, 0xFF), (31, 0xFF)]))).map (·.ctl.rampz) = some 0 := by decide

/-- V-SPM-1 -/
theorem test_spm_1 :
    halted (setup [0x95E8] 0x00 [(30, 0x00), (31, 0x01)]) = some (0, 0, .bus .writeProg 0x0100) := by decide

/-- V-IN-1 -/
theorem test_in_1 :
    seen (setup [0xB70F] 0x55 []) [16] [] =
      some ([0x55], [], 0x55, 0x0001, 1, 0x21FF) := by decide

/-- V-OUT-1 -/
theorem test_out_1 :
    seen (setup [0xBF0E] 0x00 [(16, 0x02)]) [] [] =
      some ([], [], 0x00, 0x0001, 1, 0x02FF) := by decide

/-- V-PUSH-1 -/
theorem test_push_1 :
    seen (withSp 0x0200 (setup [0x930F] 0x00 [(16, 0x11)])) [] [0x0200] =
      some ([], [0x11], 0x00, 0x0001, 2, 0x01FF) := by decide

/-- V-PUSH-2 -/
theorem test_push_2 :
    halted (withSp 0x01FF (setup [0x930F] 0x00 [(16, 0x11)])) = some (0, 0, .stack .push 0x01FF) := by decide

/-- V-POP-1 -/
theorem test_pop_1 :
    seen (withMem [(0x21FF, 0x66)] (withSp 0x21FE (setup [0x910F] 0x00 []))) [16] [] =
      some ([0x66], [], 0x00, 0x0001, 2, 0x21FF) := by decide

/-- V-POP-2 -/
theorem test_pop_2 :
    halted (setup [0x910F] 0x00 []) = some (0, 0, .stack .pop 0x2200) := by decide

/-- V-NOP-1 -/
theorem test_nop_1 :
    seen (setup [0x0000] 0x00 []) [] [] =
      some ([], [], 0x00, 0x0001, 1, 0x21FF) := by decide

/-- V-WDR-1 -/
theorem test_wdr_1 :
    seen (setup [0x95A8] 0x00 []) [] [] =
      some ([], [], 0x00, 0x0001, 1, 0x21FF) := by decide

/-- V-BREAK-1 -/
theorem test_break_1 :
    seen (setup [0x9598] 0x00 []) [] [] =
      some ([], [], 0x00, 0x0001, 1, 0x21FF) := by decide

/-- V-SLEEP-1 -/
theorem test_sleep_1 :
    seen (setup [0x9588] 0x00 []) [] [] =
      some ([], [], 0x00, 0x0001, 1, 0x21FF) := by decide

/-- V-ILL-FFFF -/
theorem test_ill_ffff :
    halted (setup [0xFFFF] 0x00 []) = some (0, 0, .decode 0xFFFF) := by decide

/-! Forms the vectors leave out, worked out from R300, R334 and R316. -/

/-- LD r5, Z+ and LD r4, -X (R311, R307). -/
theorem test_ld_z_inc : seen (withMem [(0x0200, 0x77)] (setup [0x9051] 0x00 [(30, 0x00), (31, 0x02)])) [5, 30, 31] [] =
    some ([0x77, 0x01, 0x02], [], 0x00, 1, 2, 0x21FF) := by decide

theorem test_ld_dec_x : seen (withMem [(0x01FF + 1, 0x3C)] (setup [0x904E] 0x00 [(26, 0x01), (27, 0x02)])) [4, 26, 27] [] =
    some ([0x3C, 0x00, 0x02], [], 0x00, 1, 2, 0x21FF) := by decide

/-- LDD r3, Z+5 and STD Y+5, r3 (R313, R320): the pointer is kept. -/
theorem test_ldd_z : seen (withMem [(0x0305, 0x11)] (setup [0x8035] 0x00 [(30, 0x00), (31, 0x03)])) [3, 30] [] =
    some ([0x11, 0x00], [], 0x00, 1, 2, 0x21FF) := by decide

theorem test_std_y : seen (setup [0x823D] 0x00 [(3, 0xEE), (28, 0x00), (29, 0x03)]) [28] [0x0305] =
    some ([0x00], [0xEE], 0x00, 1, 2, 0x21FF) := by decide

/-- ELPM into r0 from program byte 1, the high byte of its own word 0x95D8 (R334). -/
theorem test_elpm_r0 : seen (setup [0x95D8] 0x00 [(30, 0x01)]) [0] [] = some ([0x95], [], 0x00, 1, 3, 0x21FF) := by
  decide

/-- ST X+, r0 onto X's own low register: X is its old value plus one (R316; log 12). -/
theorem test_st_own_pointer : seen (setup [0x920D] 0x00 [(0, 0x55), (26, 0x1A)]) [26, 27] [] =
    some ([0x1B, 0x00], [], 0x00, 1, 2, 0x21FF) := by decide

/-- CBI on PINA leaves PORTA, SBI toggles one bit of it (R53, R92); words 0x98 and 0x9A, A = 0, b = 2. -/
theorem test_sbi_pin_toggles :
    (stepped (setup [0b1001101000000010] 0 [])).map (fun d => (d.portRegs .a).port) = some 0x04 ∧
    (stepped (setup [0b1001100000000010] 0 [])).map (fun d => (d.portRegs .a).port) = some 0x00 := by decide

/-- SLEEP with SE = 1 and SM = 000, and with SM = 010 (R391). -/
theorem test_sleep :
    (stepped (onDev (fun d => d.setCtl { d.ctl with smcr := 0x01 }) (setup [0x9588] 0 []))).map (·.mode) =
      some .sleeping ∧
    halted (onDev (fun d => d.setCtl { d.ctl with smcr := 0x05 }) (setup [0x9588] 0 [])) =
      some (0, 0, .unmodelled (.sleepMode 2)) := by decide

/-! ### Interrupts, peripherals and the fabric, one step each -/

/-- TOV0 pending and enabled, I set: the third word 0x7B of P7 is pushed, I is cleared, pc is 0x2E after 4 cycles. -/
def overflowDue : State :=
  onDev (fun d => { d with timer := { d.timer with tifr0 := 0x01, timsk0 := 0x01 } }) (at_ 0x7B [0] 0x80 [])

theorem test_vector_taken :
    seen overflowDue [] [0x21FE, 0x21FF] = some ([], [0x00, 0x7B], 0x00, 0x2E, 4, 0x21FD) ∧
    (stepped overflowDue).map (·.timer.tifr0) = some 0x00 := by decide

/-- From sleep the same takes 8 cycles (R424), and `inhibit` delays it by one instruction (R414, R417). -/
theorem test_vector_from_sleep :
    seen (onDev (fun d => { d with mode := .sleeping }) overflowDue) [] [] = some ([], [], 0x00, 0x2E, 8, 0x21FD) := by
  decide

theorem test_inhibit_delays :
    seen (onDev (fun d => { d with inhibit := true }) overflowDue) [] [] = some ([], [], 0x80, 0x7C, 1, 0x21FF) := by
  decide

/-- Timer0 at N = 1 passes 0xFF: the count is 0, TOV0 set (R461, R462). -/
theorem test_timer_overflow :
    (stepped (onDev (fun d => { d with timer := { d.timer with tccr0b := 1, tcnt0 := 0xFF } }) (setup [0] 0 []))).map
      (fun d => (d.timer.tcnt0, d.timer.tifr0)) = some (0x00, 0x01) := by decide

/-- At N = 8 the tick falls in cycle 7 and not in cycle 6 (R460). -/
theorem test_prescaler :
    let t : Timer0 := { Timer0.reset with tccr0b := 2, tcnt0 := 5 }
    (t.advance 6).tcnt0 = 5 ∧ (t.advance 7).tcnt0 = 6 := by decide

/-- CTC: the match at OCR0A clears the count, sets OCF0A, toggles OC0A (R463, R470); a write to TCNT0 just before
blocks it (R466). -/
theorem test_ctc_match :
    let t : Timer0 := { Timer0.reset with tccr0a := 0x42, tccr0b := 1, tcnt0 := 9, ocr0a := 9, ocr0aBuf := 9 }
    (t.tick.tcnt0, t.tick.tifr0, t.tick.oc0a) = (0, 0x02, true) ∧
    ((t.writeTcnt0 9 0xFF).tick.tcnt0, (t.writeTcnt0 9 0xFF).tick.tifr0) = (10, 0x00) := by decide

/-- Fast PWM at TOP: BOTTOM sets OC0A and loads the buffered compare value (R453, R464). -/
theorem test_fast_pwm_bottom :
    let t : Timer0 := { Timer0.reset with tccr0a := 0x83, tccr0b := 1, tcnt0 := 0xFF, ocr0a := 3, ocr0aBuf := 7 }
    (t.tick.tcnt0, t.tick.tifr0, t.tick.oc0a, t.tick.ocr0a) = (0, 0x01, true, 7) := by decide

/-- TCCR0B with CS = 6, phase-correct PWM, and fast PWM with COM0B = 01 are refused (R469). -/
theorem test_timer_refused :
    halted (setup [0xBD05] 0 [(16, 0x06)]) = some (0, 0, .unmodelled (.timer0Clock 6)) ∧
    halted (onDev (fun d => d.setTimer { d.timer with tccr0a := 0x01 }) (setup [0xBD05] 0 [(16, 0x01)])) =
      some (0, 0, .unmodelled (.timer0Wgm 1)) ∧
    halted (onDev (fun d => d.setTimer { d.timer with tccr0a := 0x13 }) (setup [0xBD05] 0 [(16, 0x01)])) =
      some (0, 0, .unmodelled .timer0Com0b) := by decide

/-- STS UDR0 with TXEN0 set, D = 16: the start bit of 16 cycles, one of them over; UDRE0 reads 0 (R486, R487). -/
theorem test_usart_start :
    (stepped (onDev (fun d => d.setUsart { d.usart with ucsr0b := 0x08 }) (setup [0x9300, 0x00C6] 0 [(16, 0x41)]))).map
      (fun d => (d.usart.tx, d.usart.udre, d.pinDrive .e 1)) = some (.busy 0 15 0x41, false, .strong false) := by decide

/-- The stop sample delivers; an unread byte is kept and DOR0 set; a 0 stop sample is a frame error (R493, R494). -/
theorem test_usart_deliver :
    let u : Usart0 := { Usart0.reset with ucsr0b := 0x10, rx := .frame 9 1 0x5A, rxPrev := true, rxBuf := 0x11 }
    ((u.rxTick true).rxBuf, (u.rxTick true).rxc) = (0x5A, true) ∧
    (({ u with rxc := true }.rxTick true).rxBuf, ({ u with rxc := true }.rxTick true).dor) = (0x11, true) ∧
    ((u.rxTick false).fe, (u.rxTick false).rxc) = (true, false) := by decide

/-- UBRR0 = 0 gives D = 16, or 8 with U2X0 (U-BAUD); 103 gives 1664. -/
theorem test_bit_period :
    Usart0.reset.bitPeriod = 16 ∧ { Usart0.reset with u2x := true }.bitPeriod = 8 ∧
    { Usart0.reset with ubrr0l := 103 }.bitPeriod = 1664 := by decide

/-- A wire from PB7 to an indicator, with PB7 an output at 1: the step records the level 1 at both (R522, R551). -/
def wired : State :=
  let s := onDev (fun d => d.setPortRegs .b { d.portRegs .b with ddr := 0x80, port := 0x80 }) (setup [0] 0 [])
  { s with
    wires := [⟨.pin 0 .b 7, .indicator 0, .or, 0, [], []⟩]
    indicators := ["LED1"]
    signals := [⟨"A.PB7", .pin 0 .b 7, none⟩, ⟨"LED1", .indicator 0, none⟩] }

theorem test_trace_events : (runFor 1 wired).trace = [⟨0, 0, .one⟩, ⟨0, 1, .one⟩] := by decide

/-- Base-94 identifiers (95_test_vectors.md section 3.6). -/
theorem test_signal_ids :
    [0, 1, 93, 94, 95, 188, 8836].map (base94 9) =
      [['!'], ['"'], ['~'], ['!', '"'], ['"', '"'], ['!', '#'], ['!', '!', '"']] := by decide

/-- The lines of P3's export. -/
theorem test_export :
    { wired with trace := [⟨0, 0, .z⟩, ⟨0, 1, .z⟩, ⟨1, 0, .zero⟩, ⟨1, 1, .zero⟩] }.exportLines =
      ["$timescale 1 ns $end", "$scope module top $end", "$var wire 1 ! A.PB7 $end", "$var wire 1 \" LED1 $end",
        "$upscope $end", "$enddefinitions $end", "#0", "z!", "z\"", "#1", "0!", "0\""] := by decide +kernel

/-- A terminal at B = 16 sends 0x55 from cycle 10: idle before, start bit, then bit 0 at cycle 26 (R546). -/
theorem test_terminal_line :
    [9, 10, 25, 26, 42, 169, 170].map (fun k => Terminal.txBitFrom 16 0 k [(10, 0x55)]) =
      [true, false, false, true, false, true, true] := by decide

/-- A request during a frame waits for its end: s_1 = max(20, 10 + 160); one after it does not (R546). -/
theorem test_frame_start :
    Terminal.frameStart 16 [(10, 0x55), (20, 0x00)] 1 = 170 ∧ Terminal.frameStart 16 [(10, 0x55), (200, 0x00)] 1 = 200 := by
  decide

/-- Writing TCCR0B = 0x80 with COM0A = 01: the strobe toggles OC0A in Normal mode and does nothing in fast PWM; the bit
reads 0 (R468). -/
theorem test_strobe :
    let after (a : Byte) : Option (Bool × Byte) :=
      (stepped (onDev (fun d => d.setTimer { d.timer with tccr0a := a }) (setup [0xBD05] 0 [(16, 0x80)]))).map
        fun d => (d.timer.oc0a, d.timer.tccr0b)
    after 0x40 = some (true, 0x00) ∧ after 0x43 = some (false, 0x00) := by decide

/-- `last_writer`: the later change wins, and endpoint b wins a tie (R523). -/
theorem test_last_writer :
    Wire.resolve .lastWriter ⟨.strong true, 5⟩ ⟨.strong false, 4⟩ = .one ∧
    Wire.resolve .lastWriter ⟨.strong true, 4⟩ ⟨.strong false, 4⟩ = .zero := by decide

/-- A halted Device stays as it is while its sibling runs on (P6). -/
theorem test_halt_is_local :
    let b := { (setup [0x9543] 0 []).dev with name := "B" }
    let s := runFor 2 { setup [0xFFFF] 0 [] with siblings := [b] }
    s.dev.isHalted = true ∧ s.dev.time = 0 ∧ s.siblings.map (fun d => (d.reg 20, d.time)) = [(1, 1)] := by decide

/-- `withFetchWord` places an instruction, of two words too, where the next step runs it. -/
theorem test_fetch_word :
    seen (State.reset.withFetchWord 16 0xEFFF) [31] [] = some ([0xFF], [], 0x00, 1, 1, 0x21FF) := by decide

theorem test_fetch_two_words :
    seen (State.reset.withFetchWord 32 0x1234940C) [] [] = some ([], [], 0x00, 0x1234, 3, 0x21FF) := by decide

/-! ### Topologies (R549) -/

/-- One Device with one wire to an indicator. -/
def small : Topology :=
  { device := ⟨"A", [0x00, 0x00]⟩, siblings := [], terminals := [], indicators := ["L"], signals := [.indicator "L"]
    wires := [{ a := .pin "A" 'B' 7, b := .indicator "L", policy := "or" }], stopCycle := 10 }

/-- The defaults of R9 and R10. -/
theorem test_defaults :
    small.cfg = ⟨.w16, 262144⟩ ∧ small.timescale = "1 ns" ∧ small.unitsPerCycle = 1 ∧
    small.wires.map (·.delay) = [0] := by decide

theorem test_build_ok : small.fault = none ∧ small.start.dev.progByte 1 = 0x00 ∧ small.start.dev.progByte 2 = 0xFF := by
  decide

theorem test_build_rejects :
    { small with indicators := ["A"] }.fault = some (.duplicateName "A") ∧
    { small with cfg := { Config.default with progBytes := 0 } }.fault = some (.imageTooLong "A") ∧
    { small with wires := [⟨.pin "A" 'G' 6, .indicator "L", "or", 0⟩] }.fault =
      some (.noSuchEndpoint (.pin "A" 'G' 6)) ∧
    { small with wires := [⟨.indicator "L", .indicator "L", "or", 0⟩] }.fault = some (.selfWire (.indicator "L")) ∧
    { small with wires := [⟨.pin "A" 'B' 7, .indicator "L", "and", 0⟩] }.fault =
      some (.unknownPolicy ⟨.pin "A" 'B' 7, .indicator "L", "and", 0⟩) ∧
    { small with wires := [⟨.pin "A" 'B' 7, .indicator "L", "or", -1⟩] }.fault =
      some (.negativeDelay ⟨.pin "A" 'B' 7, .indicator "L", "or", -1⟩) ∧
    { small with unitsPerCycle := 0 }.fault = some .unitsTooSmall := by decide

/-! ### Witnesses: for every statement with hypotheses, and for each of its clauses, an input that meets them -/

/-- Operands that meet each condition of `Form`, at both ends. -/
theorem witness_Form :
    (16 ≤ (16 : Reg).val ∧ 16 ≤ (31 : Reg).val) ∧
    ((24 ≤ (24 : Reg).val ∧ (24 : Reg).val % 2 = 0) ∧ 24 ≤ (30 : Reg).val ∧ (30 : Reg).val % 2 = 0) ∧
    ((0 : Reg).val % 2 = 0 ∧ (30 : Reg).val % 2 = 0) ∧
    ((16 ≤ (16 : Reg).val ∧ (16 : Reg).val ≤ 23) ∧ 16 ≤ (23 : Reg).val ∧ (23 : Reg).val ≤ 23) := by decide

theorem witness_IoBitWrite :
    ioReg ((0x0D : BitVec 5).toNat + 0x20) = some (.ddr .e) ∧ ioReg ((0x14 : BitVec 5).toNat + 0x20) = some (.port .g) ∧
    ioReg ((0x00 : BitVec 5).toNat + 0x20) = some (.pin .a) ∧ ioReg ((0x1E : BitVec 5).toNat + 0x20) = some .gpior0 ∧
    ioReg ((0x15 : BitVec 5).toNat + 0x20) = some .tifr0 ∧ ioReg ((0x16 : BitVec 5).toNat + 0x20) = none ∧
    ioReg ((0x1F : BitVec 5).toNat + 0x20) = none := by decide

/-- The last target below M and the first above it, for both widths. -/
theorem witness_AbsoluteJumps :
    extended (setup [] 0 [(30, 0xFF), (31, 0xFF)]) < (setup [] 0 []).cfg.pcModulus ∧
    (setup [] 0 []).cfg.pcModulus ≤ extended (withExt 0 1 (setup [] 0 [])) ∧
    extended (wide (withExt 0 1 (setup [] 0 [(30, 0xFF), (31, 0xFF)]))) < (wide (setup [] 0 [])).cfg.pcModulus ∧
    (0xFFFF : BitVec 22).toNat < (setup [] 0 []).cfg.pcModulus ∧
    (wide (setup [] 0 [])).cfg.pcModulus ≤ (0x20000 : BitVec 22).toNat := by decide

/-- The last stack pointers with room for a return address and the first without, at both ends and widths. -/
theorem witness_CallResult :
    Memory.wf .sram State.reset.dev.sram = true ∧
    pushRoom Config.default 0x201 ∧ pushRoom Config.default 0x21FF ∧ ¬ pushRoom Config.default 0x200 ∧
    ¬ pushRoom Config.default 0x2200 ∧ pushRoom { Config.default with pcBits := .w17 } 0x202 ∧
    ¬ pushRoom { Config.default with pcBits := .w17 } 0x201 ∧
    extended State.reset < State.reset.cfg.pcModulus ∧
    State.reset.cfg.pcModulus ≤ extended (withExt 0 1 State.reset) ∧
    (0x40 : BitVec 22).toNat < State.reset.cfg.pcModulus ∧ State.reset.cfg.pcModulus ≤ (0x10000 : BitVec 22).toNat := by
  unfold pushRoom
  decide

theorem witness_ReturnResult :
    popRoom Config.default 0x1FF ∧ popRoom Config.default 0x21FD ∧ ¬ popRoom Config.default 0x1FE ∧
    ¬ popRoom Config.default 0x21FE ∧ popRoom { Config.default with pcBits := .w17 } 0x21FC ∧
    ¬ popRoom { Config.default with pcBits := .w17 } 0x21FD ∧
    stackedRA Config.default (withSp 0x21FD State.reset).dev < Config.default.pcModulus ∧
    (wide State.reset).cfg.pcModulus ≤
      stackedRA (wide State.reset).cfg (withMem [(0x21FD, 0x02)] (withSp 0x21FC State.reset)).dev := by
  unfold popRoom
  decide

theorem witness_CallThenReturn :
    Memory.wf .sram State.reset.dev.sram = true ∧ ∃ t, exec .icall State.reset = .next t ∧ t.dev.isHalted = false :=
  ⟨by decide, _, rfl, by decide⟩

/-- The four clauses of a skip: not taken; taken over one word, over two words of each of the four rows, and into the
end of program memory. -/
theorem witness_SkipResult :
    let s := setup [0x1301, 0x0000] 0 [(16, 5)]
    let long (w : Word) : Prop :=
      (w &&& 0xFE0E = 0x940C) ∨ (w &&& 0xFE0E = 0x940E) ∨ (w &&& 0xFE0F = 0x9000) ∨ (w &&& 0xFE0F = 0x9200)
    s.dev.reg 16 ≠ s.dev.reg 17 ∧ s.dev.reg 17 = s.dev.reg 18 ∧
    2 * (nextPc s.cfg s.dev.pc 1).toNat + 1 < s.cfg.progBytes ∧ ¬ long (s.dev.progWord 1) ∧
    long 0x95FD ∧ long 0x940E ∧ long 0x91F0 ∧ long 0x9300 ∧
    (short 2 s).cfg.progBytes ≤ 2 * (nextPc s.cfg s.dev.pc 1).toNat + 1 ∧
    bitOf (s.dev.reg 16) 1 = false ∧ bitOf (s.dev.reg 16) 0 = true := by decide

theorem witness_IoSkipResult :
    ioReg ((0x1E : BitVec 5).toNat + 0x20) = some .gpior0 ∧ ioReg ((0x1F : BitVec 5).toNat + 0x20) = none ∧
    bitOf (State.reset.dev.ioValue .gpior0) 7 = false ∧
    bitOf ({ State.reset.dev with sreg := 0xFF }.ioValue .sreg) 7 = true := by decide

/-- The ends of the regions of data space. -/
theorem witness_LoadResult :
    (0x1F : Word).toNat ≤ 0x1F ∧ ioReg (0x20 : Word).toNat = some (.pin .a) ∧ ioReg (0x10B : Word).toNat = some (.port .l) ∧
    (0x200 ≤ (0x200 : Word).toNat ∧ (0x21FF : Word).toNat ≤ 0x21FF) ∧
    unmapped (0x2200 : Word).toNat ∧ unmapped (0xFFFF : Word).toNat ∧ unmapped (0x1FF : Word).toNat ∧
    unmapped (0x10C : Word).toNat ∧ unmapped (0x36 : Word).toNat := by
  unfold unmapped
  decide

theorem witness_StoreResult :
    ioReg (0x45 : Word).toNat = some .tccr0b ∧
    (∃ d, State.reset.dev.ioStore 0x05 0xFF .tccr0b = .ok d) ∧
    (∃ e, State.reset.dev.ioStore 0x06 0xFF .tccr0b = .error e) ∧ unmapped (0x1FF : Word).toNat :=
  ⟨by decide, ⟨_, rfl⟩, ⟨_, rfl⟩, by unfold unmapped; decide⟩

theorem witness_ProgramMemoryAccess :
    let s := withExt 3 0 (setup [] 0 [(30, 0xFF), (31, 0xFF)])
    elpmAddr s < s.cfg.progBytes ∧ (short 0x3FFFE s).cfg.progBytes ≤ elpmAddr s ∧
    (s.dev.ptr .z).toNat < s.cfg.progBytes ∧ (short 0xFFFE s).cfg.progBytes ≤ (s.dev.ptr .z).toNat := by decide

theorem witness_InOutResult :
    ioReg ((0x3F : BitVec 6).toNat + 0x20) = some .sreg ∧ ioReg ((0x25 : BitVec 6).toNat + 0x20) = some .tccr0b ∧
    (∃ d, State.reset.dev.ioStore (State.reset.dev.reg 0) 0xFF .sreg = .ok d) ∧
    (∃ e, (setup [] 0 [(16, 0x07)]).dev.ioStore ((setup [] 0 [(16, 0x07)]).dev.reg 16) 0xFF .tccr0b = .error e) ∧
    ioReg ((0x1F : BitVec 6).toNat + 0x20) = none ∧ ioReg ((0x36 : BitVec 6).toNat + 0x20) = none ∧
    IoReg.ucsr0a ≠ .udr0 ∧ ∀ p, IoReg.ucsr0a ≠ .pin p :=
  ⟨by decide, by decide, ⟨_, rfl⟩, ⟨_, rfl⟩, by decide, by decide, by decide, nofun⟩

theorem witness_IoReadBack :
    plainBits .rampz = some 0x03 ∧ State.reset.dev.ioValue .rampz &&& ~~~0x03 = 0 ∧
    (∃ x, State.reset.dev.ioStore 0xFF 0xFF .rampz = .ok x ∧ x.ioValue .rampz = 0x03) ∧
    plainBits (.ddr .g) = some 0x3F ∧ State.reset.dev.ioValue (.ddr .g) &&& ~~~0x3F = 0 ∧
    (∃ x, State.reset.dev.ioStore 0xFF 0xFF (.ddr .g) = .ok x) ∧ IoReg.sph ≠ .spl ∧ ∀ p, IoReg.sph ≠ .pin p :=
  ⟨by decide, by decide, ⟨_, rfl, by decide⟩, by decide, by decide, ⟨_, rfl⟩, by decide, nofun⟩

/-- Timer0 in a non-PWM and in a PWM mode, and writes that leave it in each. -/
theorem witness_TimerWrite :
    let d := State.reset.dev
    let pwm : Timer0 := { Timer0.reset with tccr0a := 0x83 }
    let left (o : Except FaultDetail Device) (f : Timer0 → Prop) : Prop := ∃ x, o = .ok x ∧ f x.timer
    nonPwm d.timer ∧ fastPwm pwm ∧ left (d.ioStore 0xF2 0xFF .tccr0a) nonPwm ∧
    left (d.ioStore 0x83 0xFF .tccr0a) (¬ nonPwm ·) ∧ left (d.ioStore 0xC1 0xFF .tccr0b) nonPwm ∧
    left ((d.setTimer pwm).ioStore 0xC1 0xFF .tccr0b) (¬ nonPwm ·) :=
  ⟨.inl rfl, .inl rfl, ⟨_, rfl, .inr rfl⟩, ⟨_, rfl, by unfold nonPwm; decide⟩, ⟨_, rfl, .inl rfl⟩,
    ⟨_, rfl, by unfold nonPwm; decide⟩⟩

/-- The transmitter enabled and idle, disabled, and busy; the receiver switched off, and left on. -/
theorem witness_UsartWrite :
    let on : Usart0 := { Usart0.reset with ucsr0b := 0x18 }
    let d := State.reset.dev.setUsart on
    (bitOf on.ucsr0b 3 = true ∧ on.tx = .idle) ∧ bitOf Usart0.reset.ucsr0b 3 = false ∧
    { on with tx := .busy 9 1 0 }.tx ≠ .idle ∧ (∃ x, d.ioStore 0x42 0xFF .ucsr0a = .ok x) ∧
    (bitOf on.ucsr0b 4 = true ∧ bitOf (0x08 : Byte) 4 = false) ∧ (∃ x, d.ioStore 0x08 0xFF .ucsr0b = .ok x) ∧
    bitOf (0x90 : Byte) 4 = true ∧ ∃ x, d.ioStore 0x90 0xFF .ucsr0b = .ok x :=
  ⟨by decide, by decide, by decide, ⟨_, rfl⟩, by decide, ⟨_, rfl⟩, by decide, ⟨_, rfl⟩⟩

theorem witness_PushPop :
    let sp (w : Word) := (withSp w State.reset).dev.sp.toNat
    (0x200 ≤ sp 0x200 ∧ sp 0x200 ≤ 0x21FF) ∧ (0x200 ≤ sp 0x21FF ∧ sp 0x21FF ≤ 0x21FF) ∧ sp 0x1FF < 0x200 ∧
    0x21FF < sp 0x2200 ∧ 0x200 ≤ (sp 0x1FF + 1) % 65536 ∧ (sp 0x21FE + 1) % 65536 ≤ 0x21FF ∧
    0x21FF < (sp 0x21FF + 1) % 65536 ∧ (sp 0xFFFF + 1) % 65536 < 0x200 := by decide

theorem witness_McuControl :
    let smcr (v : Byte) := (onDev (fun d => d.setCtl { d.ctl with smcr := v }) State.reset).dev.ctl.smcr.toNat
    smcr 0x0E % 2 = 0 ∧ smcr 0x01 % 16 = 1 ∧ (smcr 0x03 % 2 = 1 ∧ smcr 0x03 / 2 % 8 ≠ 0) ∧
    (smcr 0x0F % 2 = 1 ∧ smcr 0x0F / 2 % 8 ≠ 0) := by decide

theorem witness_RegisterFrame :
    (∃ t, exec (.stXInc 3) State.reset = .next t) ∧
    (1 : Reg) ∉ Instr.writtenRegs State.reset.cfg State.reset.dev (.stXInc 3) := ⟨⟨_, rfl⟩, by decide⟩

theorem witness_FlagFrame :
    (∃ t, exec (.adiw 24 1) State.reset = .next t) ∧ bitOf (Instr.flagMask (.adiw 24 1)) 5 = false ∧
    Instr.writesData State.reset.cfg State.reset.dev (.adiw 24 1) 0x5F = false := ⟨⟨_, rfl⟩, by decide, by decide⟩

/-- A two-byte push from 0x21FF: the byte below the stored ones, and the one above. -/
theorem witness_MemoryFrame :
    (∃ t, exec (.rcall 0) State.reset = .next t ∧ t.dev.isHalted = false) ∧
    Memory.wf .sram State.reset.dev.sram = true ∧
    0x21FD ∉ (Instr.access State.reset.cfg State.reset.dev (.rcall 0)).stored State.reset.dev.sp ∧
    0x2200 ∉ (Instr.access State.reset.cfg State.reset.dev (.rcall 0)).stored State.reset.dev.sp ∧
    0x21FE ∈ (Instr.access State.reset.cfg State.reset.dev (.rcall 0)).stored State.reset.dev.sp :=
  ⟨⟨_, rfl, by decide⟩, by decide, by decide, by decide, by decide⟩

/-- A store to the last address of the window reaches no register, one to UDR0 the USART alone. -/
theorem witness_SpecialFrame :
    let target (i : Instr) := (Instr.access State.reset.cfg State.reset.dev i).target
    (∃ t, exec (.sts 0xC6 1) State.reset = .next t) ∧ target (.sts 0x1FF 1) = none ∧ target (.push 1) = none ∧
    target (.sts 0xC6 1) = some .udr0 ∧ IoReg.udr0.unit = .usart ∧ target (.ioIn 1 0x3F) = some .sreg ∧
    target (.sbi 0x14 0) = some (.port .g) ∧ (IoReg.port .g).unit ≠ .port .a ∧
    (∀ d, Instr.sts 0xC6 1 ≠ .elpmZInc d) ∧
    ∀ n, Instr.access State.reset.cfg State.reset.dev (.sts 0xC6 1) ≠ .push n ∧
      Instr.access State.reset.cfg State.reset.dev (.sts 0xC6 1) ≠ .pop n :=
  ⟨⟨_, rfl⟩, by decide, by decide, by decide, by decide, by decide, by decide, by decide, nofun, fun _ => ⟨nofun, nofun⟩⟩

theorem witness_FaultKeepsState :
    State.reset.dev.mode = .running ∧ ∃ t r, exec .spm State.reset = .next t ∧ t.dev.mode = .halted r :=
  ⟨rfl, _, _, rfl, rfl⟩

theorem witness_TakeVector :
    let s := overflowDue
    let z := onDev (fun d => { d with mode := .sleeping }) s
    (s.dev.mode = .running ∧ s.dev.inhibit = false) ∧ z.dev.mode = .sleeping ∧ s.dev.iFlag = true ∧
    s.dev.eligible = some .timer0Ovf ∧ z.dev.eligible = some .timer0Ovf ∧ Memory.wf .sram s.dev.sram = true ∧
    pushRoom s.cfg s.dev.sp ∧ ¬ pushRoom s.cfg (withSp 0x200 s).dev.sp ∧
    (onDev (fun d => { d with usart := { d.usart with ucsr0b := 0x20 } }) State.reset).dev.eligible =
      some .usart0Udre := by
  unfold pushRoom
  decide

theorem witness_VectorPriority :
    overflowDue.dev.eligible = some .timer0Ovf ∧ Vec.timer0CompB.number < Vec.timer0Ovf.number ∧
    (overflowDue.dev.vecPending .timer0Ovf && overflowDue.dev.vecEnabled .timer0Ovf) = true := by decide

theorem witness_BoundaryChoice :
    let s := overflowDue
    (s.dev.mode = .running ∧ (onDev (fun d => { d with inhibit := true }) s).dev.inhibit = true) ∧
    ((onDev (fun d => { d with mode := .sleeping, sreg := 0 }) s).dev.mode = .sleeping ∧
      (onDev (fun d => { d with mode := .sleeping, sreg := 0 }) s).dev.iFlag = false) ∧
    (onDev (fun d => d.halt (.decode 0xFFFF)) s).dev.isHalted = true ∧
    (∃ t, exec (.bset 7) State.reset = .next t) ∧
    ∃ t, exec .reti (withSp 0x21FD State.reset) = .next t ∧ t.dev.mode = .running :=
  ⟨by decide, by decide, by decide, ⟨_, rfl⟩, _, rfl, by decide⟩

/-- A one-word and a two-word instruction at pc. -/
theorem witness_StepRunsInstruction :
    let s := setup [0x940C, 0x1234] 0 []
    s.isOver = false ∧ s.dev.mode = .running ∧ s.dev.time = s.cycle ∧ s.dev.iFlag = false ∧
    decode [s.dev.progByte 0, s.dev.progByte 1, s.dev.progByte 2, s.dev.progByte 3] = .ok (.jmp 0x1234, []) ∧
    2 * (nextPc s.cfg s.dev.pc 1).toNat + 1 < s.cfg.progBytes ∧ (∃ t, exec (.jmp 0x1234) s = .next t) ∧
    decode [0x00, 0x00, 0xFF, 0xFF] = .ok (.nop, [0xFF, 0xFF]) :=
  ⟨by decide, by decide, by decide, by decide, by decide, by decide, ⟨_, rfl⟩, by decide⟩

theorem witness_FetchFaults :
    (short 2 (at_ 1 [] 0 [])).cfg.progBytes ≤ 2 * (at_ 1 [] 0 []).dev.pc.toNat + 1 ∧
    (2 * (setup [0xFFFF] 0 []).dev.pc.toNat + 1 < (short 2 (setup [] 0 [])).cfg.progBytes ∧
      ∀ x, decodeWords 0xFFFF x = none) ∧
    ((∃ i, decodeWords 0x940C 0 = some i ∧ i.words = 2) ∧
      (short 2 (setup [] 0 [])).cfg.progBytes ≤ 2 * (nextPc Config.default 0 1).toNat + 1) :=
  ⟨by decide, ⟨by decide, fun _ => rfl⟩, ⟨_, rfl, rfl⟩, by decide⟩

theorem witness_HaltedFrozen :
    let d := State.reset.dev.halt (.decode 0xFFFF)
    (∃ t, step { State.reset with dev := d, siblings := [d] } = .next t) ∧ d.isHalted = true := ⟨⟨_, rfl⟩, rfl⟩

/-- A Device in the middle of an instruction, and a sibling in the middle of one. -/
theorem witness_LockStep :
    let d := { State.reset.dev with time := 3 }
    let s := { State.reset with dev := d, siblings := [d] }
    (∃ t, step s = .next t) ∧ s.dev.time ≠ s.cycle ∧ s.siblings[0]? = some d ∧ d.time ≠ s.cycle :=
  ⟨⟨_, rfl⟩, by decide, rfl, by decide⟩

theorem witness_StopCycle :
    let s (n : Nat) : State := { State.reset with stopCycle := some n }
    ((s 0).stopCycle = some 0 ∧ 0 ≤ (s 0).cycle) ∧ ((s 1).stopCycle = some 1 ∧ (s 1).cycle < 1) := by decide

theorem witness_ProgramConstant : ∃ t, step (setup [0x95E8] 0 []) = .next t := ⟨_, rfl⟩

theorem witness_DecodeOfEncode :
    Instr.WellFormed (.lddY 31 63) = true ∧ Instr.WellFormed (.fmulsu 23 23) = true ∧
    Instr.WellFormed (.jmp 0x3FFFFF) = true ∧ Instr.WellFormed (.ldXInc 25) = true := by decide

theorem witness_EncodeOfDecode :
    decodeWords 0x940C 0x1234 = some (.jmp 0x1234) ∧ decodeWords 0x0000 0 = some .nop := by decide

theorem witness_BuildStarts :
    (∃ s, small.build = .ok s) ∧ small.devices[0]? = some ⟨"A", [0x00, 0x00]⟩ ∧
    ∃ x ∈ ({ small with cfg := { Config.default with progBytes := 0 } } : Topology).devices,
      ({ small with cfg := { Config.default with progBytes := 0 } } : Topology).cfg.progBytes < x.image.length :=
  ⟨⟨_, rfl⟩, by decide, small.device, by decide, by decide⟩

/-- A Device at rest with this program. -/
def idleWith (prog : Memory) : Device := { State.reset.dev with prog := prog }

/-- Two of them in one run: a NOP, and a word of no row. -/
def calm : State := { State.reset with dev := idleWith [(0, 0), (1, 0)], siblings := [idleWith []] }

theorem idleWith_coreInv (prog : Memory) (h : Memory.wf .program prog = true) :
    (idleWith prog).CoreInv Config.default 0 where
  sramCanonical := rfl
  sramInRange := by intro c hc; cases hc
  progCanonical := h
  pcInRange := show 0 < Config.default.pcModulus by decide
  notLate := fun _ => Nat.le_refl 0
  recordTrue := by intro r hr; cases hr

theorem idleWith_unitInv (prog : Memory) : (idleWith prog).UnitInv where
  reserved := show State.reset.dev.reservedClear = true by decide
  timerModelled := show State.reset.dev.timer.refusal = none by decide
  compareLive := fun _ => ⟨rfl, rfl⟩
  usartModelled := fun h =>
    absurd h (show ¬ (State.reset.dev.usart.rxen || State.reset.dev.usart.txen) = true by decide)
  txRange := rfl
  rxRange := rfl
  firedHasFlag := ⟨(fun h => by cases h), (fun h => by cases h)⟩
  inhibitHasI := fun h => by cases h
  sleepNotInhibited := fun _ => rfl

theorem witness_StepKeepsCore : calm.CoreInv ∧ ∃ t, step calm = .next t :=
  ⟨⟨idleWith_coreInv _ (by decide), by
    intro d hd
    rw [List.mem_singleton.mp hd]
    exact idleWith_coreInv _ (by decide)⟩, _, rfl⟩

theorem witness_StepKeepsUnits : calm.UnitInv ∧ ∃ t, step calm = .next t :=
  ⟨⟨idleWith_unitInv _, by
    intro d hd
    rw [List.mem_singleton.mp hd]
    exact idleWith_unitInv _, by intro t ht; cases ht⟩, _, rfl⟩

theorem witness_StepKeepsRecords : wired.RecordInv ∧ ∃ t, step wired = .next t :=
  ⟨⟨by
    intro w hw
    rw [List.mem_singleton.mp hw]
    decide, List.Pairwise.nil, by intro e he; cases he⟩, _, rfl⟩

theorem witness_UnwiredIsolation :
    let alone : State := { calm with siblings := [] }
    calm.wires = [] ∧ alone.wires = [] ∧ calm.cfg = alone.cfg ∧ calm.cycle = alone.cycle ∧ calm.dev = alone.dev ∧
    (∃ t, step calm = .next t) ∧ ∃ t, step alone = .next t := ⟨rfl, rfl, rfl, rfl, rfl, ⟨_, rfl⟩, ⟨_, rfl⟩⟩

theorem witness_TimerPrescaled :
    let t : Timer0 := { Timer0.reset with tccr0b := 5 }
    t.waveMode = .normal ∧ t.divisor = some 1024 := by decide

theorem witness_CtcPeriod :
    let t : Timer0 := { Timer0.reset with tccr0a := 0x02, tccr0b := 1, ocr0a := 0xFF, ocr0aBuf := 0xFF }
    t.waveMode = .ctc ∧ t.divisor = some 1 ∧ t.tcnt0 = 0 ∧ t.block = false := by decide

theorem witness_FastPwmPeriod :
    let t : Timer0 := { Timer0.reset with tccr0a := 0x83, tccr0b := 1, oc0a := true }
    t.waveMode = .fastPwmFF ∧ t.divisor = some 1 ∧ t.com .a = 2 ∧ t.tcnt0 = 0 ∧ t.block = false ∧ t.oc0a = true := by
  decide

/-- The last cycle of a frame, and for the terminal the cycles before, between and after its two frames. -/
theorem witness_TransmitFrame :
    let u : Usart0 := { Usart0.reset with ucsr0b := 0x08 }
    let v : Terminal := ⟨"V", 2, [(3, 0x55), (24, 0xAA)], .idle, false, [], 0⟩
    let start := Terminal.frameStart v.bitCycles v.sends
    let free (k : Nat) : Prop := ∀ i < v.sends.length, k < start i ∨ start i + 10 * v.bitCycles ≤ k
    (u.txen = true ∧ u.tx = .idle ∧ 159 < 10 * u.bitPeriod) ∧ v.sends[1]? = some (24, 0xAA) ∧
    19 < 10 * v.bitCycles ∧ free 2 ∧ free 23 ∧ free 44 := by decide

theorem witness_SerialLoopback :
    let u : Usart0 := { Usart0.reset with ucsr0b := 0x08, u2x := true }
    let r : Usart0 := { Usart0.reset with ucsr0b := 0x10, u2x := true, rxPrev := true }
    let x : Terminal := ⟨"V", 8, [], .idle, true, [], 0⟩
    u.txen = true ∧ u.tx = .idle ∧ r.rxen = true ∧ r.rx = .idle ∧ r.rxPrev = true ∧ r.bitPeriod = u.bitPeriod ∧
    x.rx = .idle ∧ x.rxPrev = true ∧ x.bitCycles = u.bitPeriod ∧ r.rxc = false ∧ { r with rxc := true }.rxc = true := by
  decide

/-- A value of each refusal and of each acceptance. -/
theorem witness_ConfigRefused :
    let refused (r : IoReg) (v : Byte) : Prop := ∃ u, State.reset.dev.ioStore v 0xFF r = .error (.unmodelled u)
    refused .mcucr 0x02 ∧ refused .tccr0b 0x07 ∧ refused .ucsr0b 0x1C ∧ ∃ d, State.reset.dev.ioStore 0x90 0xFF .mcucr = .ok d :=
  ⟨⟨_, rfl⟩, ⟨_, rfl⟩, ⟨_, rfl⟩, ⟨_, rfl⟩⟩

theorem witness_PinReadDelay :
    State.reset.dev.isHalted = false ∧ PortName.hasPin .g 5 = true ∧ PortName.hasPin .g 6 = false ∧
    (fun (_ : PortName) (_ : Fin 8) => Level.one) .g 5 = .one ∧
    (fun (_ : PortName) (_ : Fin 8) => Level.zero) .g 5 = .zero ∧
    (PortName.e, (2 : Fin 8)) ∉ [(.e, 1), (.b, 7), (.g, 5), (.e, 0)] ∧ PortName.hasPin .e 2 = true := by decide

/-- An endpoint on no wire, and the two ends of the only wire. -/
theorem witness_EndpointLevel :
    let on (e : Endpoint) (w : Wire) : Prop := w.a = e ∨ w.b = e
    (∀ w ∈ wired.wires, ¬ on (.termRx 0) w) ∧
    (∃ w ∈ wired.wires, (∀ x ∈ wired.wires, on w.a x → x = w) ∧ (∀ x ∈ wired.wires, on w.b x → x = w) ∧ w.a ≠ w.b) ∧
    wired.device 0 = some wired.dev := by decide

theorem witness_WireResolution :
    (Sample.mk (.strong true) 3).drive = .strong true ∧ (Sample.mk (.strong false) 2).drive = .strong false ∧
    true ≠ false ∧ (∀ q, (Sample.mk .pullUp 0).drive ≠ .strong q) ∧ (Sample.mk .pullUp 0).drive = .pullUp ∧
    Drive.float ≠ .strong true ∧ Drive.float ≠ .strong false ∧ (Sample.mk .float 0).drive = .float := by decide

/-- A drive that changes in cycle 2, seen with a delay of 1 after cycle 4. -/
theorem witness_WireDelay :
    let drive (j : Nat) : Drive := if j < 2 then .float else .strong true
    (Wire.near (Wire.history 1 drive 5)).chg < 3 ∧ drive 4 ≠ .float ∧ 1 ≤ 4 ∧ drive (4 - 1) ≠ .float := by decide

theorem witness_TraceRecords :
    (∃ b, wired.boundary = .next b) ∧ (∃ t, step wired = .next t) ∧
    wired.signals[1]? = some ⟨"LED1", .indicator 0, none⟩ := ⟨⟨_, rfl⟩, ⟨_, rfl⟩, by decide⟩

end Sys2Proof.Tests
end

section
/-! SUPPORT. What the build of a run fixes in a Device, its name and its program memory (R549, R83), and that no
effect of a boundary changes either: one lemma for each shared operation, then every instruction, then a boundary. -/

namespace Sys2Proof.Machine

/-! ### What the build fixes in a Device -/

namespace Device

/-- The Device `e` has the name and the program memory of `d`. -/
structure SameBuild (d e : Device) : Prop where
  name : e.name = d.name
  prog : e.prog = d.prog

theorem SameBuild.refl (d : Device) : SameBuild d d := ⟨rfl, rfl⟩

theorem SameBuild.trans {d e f : Device} (h : SameBuild d e) (h' : SameBuild e f) : SameBuild d f :=
  ⟨h'.name.trans h.name, h'.prog.trans h.prog⟩

/-- The effect `e` of `d` keeps what the build fixed, if it completes. -/
def KeepsBuild (d : Device) (e : Except FaultDetail Device) : Prop := ∀ d', e = .ok d' → SameBuild d d'

theorem KeepsBuild.of_sameBuild {d d' : Device} (h : SameBuild d d') : d.KeepsBuild (.ok d') := by
  rintro _ ⟨⟩
  exact h

theorem KeepsBuild.of_error (d : Device) (e : FaultDetail) : d.KeepsBuild (.error e) := fun _ h => by cases h

/-- An effect that goes on from a part of it that completes. -/
theorem KeepsBuild.map {α : Type} {d : Device} {e : Except FaultDetail α} {f : α → Device}
    (h : ∀ a, e = .ok a → SameBuild d (f a)) : d.KeepsBuild (e.map f) := by
  cases e with
  | error e => exact .of_error d e
  | ok a => exact .of_sameBuild (h a rfl)

/-! ### The shared operations -/

theorem afterIoRead_sameBuild (d : Device) (r : IoReg) : SameBuild d (d.afterIoRead r) := by
  rw [(d.afterIoRead_frame r).1]
  exact ⟨rfl, rfl⟩

theorem ioRead_sameBuild {d d' : Device} {a : Nat} {v : Byte} (h : d.ioRead a = .ok (v, d')) : SameBuild d d' := by
  rcases d.ioRead_cases a with ⟨r, -, he⟩ | ⟨-, he⟩ <;> rw [he] at h <;> cases h
  exact d.afterIoRead_sameBuild r

theorem memRead_sameBuild {d d' : Device} {a : Word} {v : Byte} (h : d.memRead a = .ok (v, d')) : SameBuild d d' := by
  rcases memRead_cases h with ⟨-, -, rfl⟩ | ⟨-, -, r, -, -, rfl⟩ | ⟨-, -, -, rfl⟩
  · exact .refl _
  · exact d.afterIoRead_sameBuild r
  · exact .refl _

/-- A register of the I/O window belongs to one unit, and a write changes nothing outside it. -/
theorem ioStore_sameBuild {d d' : Device} {v mask : Byte} {r : IoReg} (h : d.ioStore v mask r = .ok d') :
    SameBuild d d' := by
  obtain ⟨htimer, husart, hport, hcore⟩ := ioStore_frame h
  cases hu : r.unit with
  | timer => rw [htimer hu]; exact ⟨rfl, rfl⟩
  | usart => rw [husart hu]; exact ⟨rfl, rfl⟩
  | port p => obtain ⟨q, rfl⟩ := hport p hu; exact ⟨rfl, rfl⟩
  | core => rw [hcore hu]; exact ⟨rfl, rfl⟩

theorem ioWrite_sameBuild {d d' : Device} {a : Nat} {v mask : Byte} (h : d.ioWrite a v mask = .ok d') :
    SameBuild d d' := by
  rcases d.ioWrite_cases a v mask with ⟨r, -, he⟩ | ⟨-, he⟩ <;> rw [he] at h
  · exact ioStore_sameBuild h
  · cases h

theorem memWrite_sameBuild {d d' : Device} {a : Word} {v : Byte} (h : d.memWrite a v = .ok d') : SameBuild d d' := by
  rcases memWrite_cases h with ⟨-, rfl⟩ | ⟨-, -, r, -, hr⟩ | ⟨-, -, rfl⟩
  · exact ⟨rfl, rfl⟩
  · exact ioStore_sameBuild hr
  · exact ⟨rfl, rfl⟩

theorem push8_sameBuild {d d' : Device} {v : Byte} (h : d.push8 v = .ok d') : SameBuild d d' := by
  rcases d.push8_cases v with ⟨-, he⟩ | ⟨-, he⟩ <;> rw [he] at h <;> cases h
  exact ⟨rfl, rfl⟩

theorem pop8_sameBuild {d d' : Device} {v : Byte} (h : d.pop8 = .ok (v, d')) : SameBuild d d' := by
  rcases d.pop8_cases with ⟨-, he⟩ | ⟨-, he⟩ <;> rw [he] at h <;> cases h
  exact ⟨rfl, rfl⟩

theorem ptrUpdate_sameBuild (d : Device) (p : Ptr) (old : Word) (m : PtrMode) : SameBuild d (d.ptrUpdate p old m) := by
  cases m <;> exact ⟨rfl, rfl⟩

theorem loadFrom_keepsBuild (c : Config) (d : Device) (rd : Reg) (a : Word) (words : ProgAddr) :
    d.KeepsBuild (d.loadFrom c rd a words) :=
  .map fun _ h => (memRead_sameBuild h).trans ⟨rfl, rfl⟩

theorem load_keepsBuild (c : Config) (d : Device) (rd : Reg) (p : Ptr) (m : PtrMode) :
    d.KeepsBuild (d.load c rd p m) :=
  .map fun _ h => ((memRead_sameBuild h).trans (ptrUpdate_sameBuild _ p _ m)).trans ⟨rfl, rfl⟩

theorem storeTo_keepsBuild (c : Config) (d : Device) (rr : Reg) (a : Word) (words : ProgAddr) :
    d.KeepsBuild (d.storeTo c rr a words) :=
  .map fun _ h => (memWrite_sameBuild h).trans ⟨rfl, rfl⟩

theorem store_keepsBuild (c : Config) (d : Device) (rr : Reg) (p : Ptr) (m : PtrMode) :
    d.KeepsBuild (d.store c rr p m) :=
  .map fun _ h => ((memWrite_sameBuild h).trans (ptrUpdate_sameBuild _ p _ m)).trans ⟨rfl, rfl⟩

theorem loadProg_keepsBuild (c : Config) (d : Device) (rd : Reg) (a : Nat) {after : Device → Device}
    (h : SameBuild d (after d)) : d.KeepsBuild (d.loadProg c rd a after) :=
  .map fun _ _ => h.trans ⟨rfl, rfl⟩

theorem call_keepsBuild (c : Config) (d : Device) (words target : ProgAddr) (cycles : Nat) :
    d.KeepsBuild (d.call c words target cycles) := fun d' h => by
  rw [(call_frame h).1]
  exact ⟨rfl, rfl⟩

/-- A call whose target is checked first (R250, R409). -/
theorem checkedCall_keepsBuild (c : Config) (d : Device) (words : ProgAddr) (cycles : Nat)
    (target : Except FaultDetail ProgAddr) :
    d.KeepsBuild (match target with
      | .ok t => d.call c words t cycles
      | .error e => .error e) := by
  cases target with
  | ok t => exact d.call_keepsBuild c words t cycles
  | error e => exact .of_error d e

theorem returnTo_keepsBuild (c : Config) (d : Device) : d.KeepsBuild (d.returnTo c) := fun d' h => by
  rw [(returnTo_frame h).1]
  exact ⟨rfl, rfl⟩

theorem returnFromInterrupt_keepsBuild (c : Config) (d : Device) : d.KeepsBuild (d.returnFromInterrupt c) :=
  .map fun d' h => (d.returnTo_keepsBuild c d' h).trans ⟨rfl, rfl⟩

theorem skipIf_keepsBuild (c : Config) (d : Device) (cond : Bool) : d.KeepsBuild (d.skipIf c cond) := fun d' h => by
  obtain ⟨n, -, rfl⟩ := skipIf_cases h
  exact ⟨rfl, rfl⟩

theorem skipOnIo_keepsBuild (c : Config) (d : Device) (a : BitVec 5) (b : Fin 8) (want : Bool) :
    d.KeepsBuild (d.skipOnIo c a b want) := by
  unfold skipOnIo
  cases h : d.ioRead (ioAddr a) with
  | error e => exact .of_error d e
  | ok r => exact fun d' hd' => (ioRead_sameBuild h).trans (skipIf_keepsBuild c _ _ d' hd')

theorem acknowledge_sameBuild (d : Device) (v : Vec) : SameBuild d (d.acknowledge v) := by
  cases v <;> exact ⟨rfl, rfl⟩

theorem takeVector_keepsBuild (c : Config) (d : Device) (v : Vec) (wake : Nat) :
    d.KeepsBuild (d.takeVector c v wake) := fun d' h => by
  obtain ⟨d1, hpush, rfl⟩ := takeVector_frame h
  have hpushed : SameBuild d d1 := by
    rw [(pushBytes_frame hpush).1]
    exact ⟨rfl, rfl⟩
  exact (hpushed.trans (d1.acknowledge_sameBuild v)).trans ⟨rfl, rfl⟩

theorem settle_sameBuild (d : Device) : SameBuild d d.settle := by
  unfold settle
  split <;> exact ⟨rfl, rfl⟩

end Device

/-! ### Every instruction, and a boundary -/

open Device

/-- Every instruction retires an effect of the Device under study that keeps what the build fixed. -/
theorem exec_keepsBuild (i : Instr) (s : State) : ∃ e, exec i s = s.retire e ∧ s.dev.KeepsBuild e := by
  cases i with
  | add | adc | adiw | sub | subi | sbc | sbci | sbiw | and | andi | or | ori | eor | com | neg | inc | dec | mul | muls
  | mulsu | fmul | fmuls | fmulsu | rjmp | ijmp | cp | cpc | cpi | mov | movw | ldi | lsr | ror | asr | swap | bset
  | bclr | bst | bld | nop | wdr | brk =>
    refine ⟨_, rfl, .of_sameBuild ?_⟩
    exact ⟨rfl, rfl⟩
  | eijmp | jmp => exact ⟨_, rfl, .map fun _ _ => ⟨rfl, rfl⟩⟩
  | rcall | icall => exact ⟨_, rfl, call_keepsBuild _ _ _ _ _⟩
  | eicall | call => exact ⟨_, rfl, checkedCall_keepsBuild _ _ _ _ _⟩
  | ret => exact ⟨_, rfl, returnTo_keepsBuild _ _⟩
  | reti => exact ⟨_, rfl, returnFromInterrupt_keepsBuild _ _⟩
  | cpse | sbrc | sbrs => exact ⟨_, rfl, skipIf_keepsBuild _ _ _⟩
  | sbic | sbis => exact ⟨_, rfl, skipOnIo_keepsBuild _ _ _ _ _⟩
  | brbs | brbc => exact ⟨_, rfl, .of_sameBuild (by split <;> exact ⟨rfl, rfl⟩)⟩
  | lds => exact ⟨_, rfl, loadFrom_keepsBuild _ _ _ _ _⟩
  | ldX | ldXInc | ldDecX | ldYInc | ldDecY | ldY | lddY | ldZInc | ldDecZ | ldZ | lddZ =>
    exact ⟨_, rfl, load_keepsBuild _ _ _ _ _⟩
  | sts => exact ⟨_, rfl, storeTo_keepsBuild _ _ _ _ _⟩
  | stX | stXInc | stDecX | stYInc | stDecY | stY | stdY | stZInc | stDecZ | stZ | stdZ =>
    exact ⟨_, rfl, store_keepsBuild _ _ _ _ _⟩
  | lpm | lpmZ | lpmZInc | elpm | elpmZ | elpmZInc => exact ⟨_, rfl, loadProg_keepsBuild _ _ _ _ ⟨rfl, rfl⟩⟩
  | spm => exact ⟨_, rfl, .of_error _ _⟩
  | ioIn => exact ⟨_, rfl, .map fun _ h => (ioRead_sameBuild h).trans ⟨rfl, rfl⟩⟩
  | ioOut | sbi | cbi => exact ⟨_, rfl, .map fun _ h => (ioWrite_sameBuild h).trans ⟨rfl, rfl⟩⟩
  | push => exact ⟨_, rfl, .map fun _ h => (push8_sameBuild h).trans ⟨rfl, rfl⟩⟩
  | pop => exact ⟨_, rfl, .map fun _ h => (pop8_sameBuild h).trans ⟨rfl, rfl⟩⟩
  | sleep =>
    refine ⟨_, rfl, ?_⟩
    split
    · exact .of_sameBuild ⟨rfl, rfl⟩
    · split
      · exact .of_sameBuild ⟨rfl, rfl⟩
      · exact .of_error _ _

namespace State

/-- A retired effect changes the Device under study alone; where the effect keeps what the build fixed, so does its
retirement, because halting does. -/
theorem retire_sameBuild (s : State) {e : Except FaultDetail Device} (h : s.dev.KeepsBuild e) :
    ∃ d, s.retire e = .next { s with dev := d } ∧ SameBuild s.dev d := by
  cases e with
  | ok d => exact ⟨d, rfl, h d rfl⟩
  | error f => exact ⟨s.dev.halt f, rfl, rfl, rfl⟩

theorem runInstr_sameBuild (s : State) : ∃ d, s.runInstr = .next { s with dev := d } ∧ SameBuild s.dev d := by
  unfold runInstr
  cases s.dev.fetchInstr s.cfg with
  | error f => exact s.retire_sameBuild (.of_error _ f)
  | ok i =>
    obtain ⟨e, he, hkeeps⟩ := exec_keepsBuild i s
    simpa only [he] using s.retire_sameBuild hkeeps

theorem takeInterrupt_sameBuild (s : State) (v : Vec) (wake : Nat) :
    ∃ d, s.takeInterrupt v wake = .next { s with dev := d } ∧ SameBuild s.dev d :=
  s.retire_sameBuild (takeVector_keepsBuild _ _ v wake)

/-- What a Device that acts can do: it stays halted, takes a vector, idles, or runs an instruction. -/
theorem act_sameBuild (s : State) : ∃ d, s.act = .next { s with dev := d } ∧ SameBuild s.dev d := by
  unfold act
  split
  · exact ⟨s.dev, rfl, .refl _⟩
  · split
    · exact s.takeInterrupt_sameBuild _ _
    · exact ⟨s.dev.idle, rfl, rfl, rfl⟩
  · split
    · exact s.takeInterrupt_sameBuild _ _
    · exact s.runInstr_sameBuild

/-- Before its boundary has come, the Device under study does nothing (R530 step 1). -/
theorem boundary_of_time_ne {s : State} (h : s.dev.time ≠ s.cycle) : s.boundary = .next s := if_neg h

/-- A boundary changes the Device under study alone, and nothing of it that the build fixed. -/
theorem boundary_sameBuild (s : State) : ∃ d, s.boundary = .next { s with dev := d } ∧ SameBuild s.dev d := by
  by_cases h : s.dev.time = s.cycle
  · obtain ⟨d, hact, hd⟩ := s.act_sameBuild
    refine ⟨d.settle, ?_, hd.trans d.settle_sameBuild⟩
    rw [boundary, if_pos h, hact]
    rfl
  · exact ⟨s.dev, boundary_of_time_ne h, .refl _⟩

theorem siblingBoundary_of_time_ne {s : State} {d : Device} (h : d.time ≠ s.cycle) : s.siblingBoundary d = d := by
  rw [siblingBoundary, boundary_of_time_ne (s := { s with dev := d }) h]

theorem siblingBoundary_sameBuild (s : State) (d : Device) : SameBuild d (s.siblingBoundary d) := by
  obtain ⟨e, he, hbuild⟩ := boundary_sameBuild { s with dev := d }
  rw [siblingBoundary, he]
  exact hbuild

end State

end Sys2Proof.Machine
end

section
/-! SUPPORT. What the rest of a cycle leaves in each field of the run, and what its ticks keep of a Device, a wire, a
terminal and a traced signal (R530 steps 2 to 5). -/

namespace Sys2Proof.Machine

/-! ### The tick of a Device -/

namespace Device

theorem tick_sameBuild (d : Device) (k : Nat) (level : PortName → Fin 8 → Level) : SameBuild d (d.tick k level) := by
  unfold tick
  split <;> exact ⟨rfl, rfl⟩

/-- A tick reaches the peripherals, never the core (R530 step 4). -/
theorem tick_sameCore (d : Device) (k : Nat) (level : PortName → Fin 8 → Level) : SameCore d (d.tick k level) := by
  unfold tick
  split <;> exact ⟨rfl, rfl, rfl, rfl, rfl⟩

end Device

namespace State

/-! ### The ticks of several Devices, terminals and signals -/

/-- The j-th Device after the ticks. -/
theorem getElem?_tickDevices (k : Nat) (level : Endpoint → Level) (i j : Nat) (ds : List Device) :
    (tickDevices k level i ds)[j]? = ds[j]?.map fun d => d.tick k fun p n => level (.pin (i + j) p n) := by
  induction ds generalizing i j with
  | nil => rfl
  | cons d ds ih =>
    cases j with
    | zero => rfl
    | succ j => rw [tickDevices, List.getElem?_cons_succ, List.getElem?_cons_succ, ih, Nat.succ_add_eq_add_succ]

theorem map_name_tickDevices (k : Nat) (level : Endpoint → Level) (i : Nat) (ds : List Device) :
    (tickDevices k level i ds).map (·.name) = ds.map (·.name) := by
  induction ds generalizing i with
  | nil => rfl
  | cons d ds ih => rw [tickDevices, List.map_cons, List.map_cons, ih, (d.tick_sameBuild k _).name]

/-- A terminal's tick is its receiver's: the name, the rate and the send list stay (R547). -/
theorem map_build_tickTerminals (k : Nat) (level : Endpoint → Level) (i : Nat) (vs : List Terminal) :
    (tickTerminals k level i vs).map (fun v => (v.name, v.bitCycles, v.sends)) =
      vs.map fun v => (v.name, v.bitCycles, v.sends) := by
  induction vs generalizing i with
  | nil => rfl
  | cons v vs ih =>
    rw [tickTerminals, List.map_cons, List.map_cons, ih]
    rfl

end State

theorem map_build_noteLevels (level : Endpoint → Level) (gs : List Signal) :
    (noteLevels level gs).map (fun g => (g.name, g.endpoint)) = gs.map fun g => (g.name, g.endpoint) :=
  List.map_map

theorem map_build_record (k : Nat) (drive : Endpoint → Drive) (ws : List Wire) :
    (ws.map fun w => w.record k drive).map (fun w => (w.a, w.b, w.policy, w.delay)) =
      ws.map fun w => (w.a, w.b, w.policy, w.delay) :=
  List.map_map

open Device (SameBuild)

namespace State

/-! ### The rest of a cycle, field by field -/

/-- The run once every Device has had its boundary in this cycle, and the wires have taken the drives (R530 steps 1
and 2). -/
def driven (s : State) : State := recordDrives { s with siblings := s.siblings.map s.siblingBoundary }

@[simp] theorem finishCycle_cycle (s : State) : s.finishCycle.cycle = s.cycle + 1 := rfl
@[simp] theorem finishCycle_cfg (s : State) : s.finishCycle.cfg = s.cfg := rfl
@[simp] theorem finishCycle_stopCycle (s : State) : s.finishCycle.stopCycle = s.stopCycle := rfl
@[simp] theorem finishCycle_indicators (s : State) : s.finishCycle.indicators = s.indicators := rfl
@[simp] theorem finishCycle_timescale (s : State) : s.finishCycle.timescale = s.timescale := rfl
@[simp] theorem finishCycle_unitsPerCycle (s : State) : s.finishCycle.unitsPerCycle = s.unitsPerCycle := rfl
theorem finishCycle_wires (s : State) :
    s.finishCycle.wires =
      s.wires.map fun w => w.record s.cycle (drive { s with siblings := s.siblings.map s.siblingBoundary }) := rfl
theorem finishCycle_dev (s : State) :
    s.finishCycle.dev = s.dev.tick s.cycle fun p n => s.driven.level (.pin 0 p n) := rfl
theorem finishCycle_siblings (s : State) :
    s.finishCycle.siblings = tickDevices s.cycle s.driven.level 1 (s.siblings.map s.siblingBoundary) := rfl
theorem finishCycle_terminals (s : State) :
    s.finishCycle.terminals = tickTerminals s.cycle s.driven.level 0 s.terminals := rfl
theorem finishCycle_signals (s : State) : s.finishCycle.signals = noteLevels s.driven.level s.signals := rfl

/-! ### A step -/

/-- A step that answers a next state is a boundary of the Device under study, then the rest of the cycle. -/
theorem step_cases {s t : State} (h : step s = .next t) :
    ∃ d, s.boundary = .next { s with dev := d } ∧ SameBuild s.dev d ∧ t = finishCycle { s with dev := d } := by
  obtain ⟨d, hd, hbuild⟩ := s.boundary_sameBuild
  refine ⟨d, hd, hbuild, ?_⟩
  unfold step runCycle at h
  split at h
  · cases h
  · rw [hd] at h
    exact (Host.Outcome.next.inj h).symm

/-- A Device under study between two boundaries is as it was after step 1 of a cycle. -/
theorem eq_dev_of_boundary {s : State} {d : Device} (h : s.boundary = .next { s with dev := d })
    (hne : s.dev.time ≠ s.cycle) : d = s.dev := by
  rw [boundary_of_time_ne hne] at h
  exact (congrArg State.dev (Host.Outcome.next.inj h)).symm

/-- A sibling between two boundaries only ticks in the rest of a cycle. -/
theorem finishCycle_sibling_sameCore {s : State} {j : Nat} {d : Device} (hj : s.siblings[j]? = some d)
    (hne : d.time ≠ s.cycle) : ∃ e, s.finishCycle.siblings[j]? = some e ∧ SameCore d e := by
  refine ⟨_, ?_, d.tick_sameCore s.cycle fun p n => s.driven.level (.pin (1 + j) p n)⟩
  rw [finishCycle_siblings, getElem?_tickDevices, List.getElem?_map, hj, Option.map_some, Option.map_some,
    siblingBoundary_of_time_ne hne]

theorem map_name_finishCycle_siblings (s : State) :
    s.finishCycle.siblings.map (·.name) = s.siblings.map (·.name) := by
  rw [finishCycle_siblings, map_name_tickDevices, List.map_map]
  exact List.map_congr_left fun d _ => (s.siblingBoundary_sameBuild d).name

end State

/-! ### The obligation -/

/-- Settles O38: a step is a boundary of the Device under study, which changes that Device alone, and then the rest of
the cycle, whose parts keep what the build fixed field by field; a Device whose boundary has not come only ticks. -/
theorem lockStep : Obligations.LockStep := by
  unfold Obligations.LockStep
  intro s t h
  obtain ⟨d, hboundary, hbuild, rfl⟩ := State.step_cases h
  refine ⟨State.finishCycle_cycle _, State.finishCycle_cfg _, State.finishCycle_stopCycle _, ?wires, ?terminals,
    State.finishCycle_indicators _, ?signals, State.finishCycle_timescale _, State.finishCycle_unitsPerCycle _,
    ?name, ?names, ?core, ?cores⟩
  case wires =>
    rw [State.finishCycle_wires]
    exact map_build_record _ _ _
  case terminals =>
    rw [State.finishCycle_terminals]
    exact State.map_build_tickTerminals _ _ _ _
  case signals =>
    rw [State.finishCycle_signals]
    exact map_build_noteLevels _ _
  case name =>
    rw [State.finishCycle_dev]
    exact (Device.tick_sameBuild _ _ _).name.trans hbuild.name
  case names => exact State.map_name_finishCycle_siblings _
  case core =>
    intro hne
    rw [State.finishCycle_dev, State.eq_dev_of_boundary hboundary hne]
    exact Device.tick_sameCore _ _ _
  case cores =>
    intro j e hj hne
    exact State.finishCycle_sibling_sameCore (s := { s with dev := d }) hj hne

end Sys2Proof.Machine
end

section
/-! SUPPORT. What an instruction can do to its Device, said once (R13, R300): changes of its data, in some order, then
an ending that sets pc, T, `inhibit` and the mode. One lemma for each shared operation, then one for `exec`; what an
instruction leaves unchanged and which invariants it keeps follow by induction on the changes. -/

namespace Sys2Proof.Machine

namespace Device

/-! ### The changes of a Device's data -/

/-- `DataEffect regs d e`: the Device `e` is `d` after changes an instruction can make to data, with general registers
written among `regs` alone, and SRAM inside its range alone (R54). -/
inductive DataEffect (regs : List Reg) (d : Device) : Device → Prop
  | refl : DataEffect regs d d
  | setReg {m : Device} {r : Reg} (h : DataEffect regs d m) (hr : r ∈ regs) (v : Byte) :
      DataEffect regs d (m.setReg r v)
  | setSreg {m : Device} (h : DataEffect regs d m) (v : Byte) : DataEffect regs d (m.setSreg v)
  | setSp {m : Device} (h : DataEffect regs d m) (v : Word) : DataEffect regs d (m.setSp v)
  | setSramByte {m : Device} {a : Nat} (h : DataEffect regs d m) (hlow : 0x200 ≤ a) (hhigh : a ≤ 0x21FF)
      (v : Byte) : DataEffect regs d (m.setSramByte a v)
  /-- RAMPZ[1:0] alone (R336). -/
  | setRampz {m : Device} (h : DataEffect regs d m) (x : BitVec 2) :
      DataEffect regs d (m.setCtl { m.ctl with rampz := m.ctl.rampz.extractLsb' 2 6 ++ x })
  | afterIoRead {m : Device} (h : DataEffect regs d m) (r : IoReg) : DataEffect regs d (m.afterIoRead r)
  | ioStore {m e : Device} {v mask : Byte} {r : IoReg} (h : DataEffect regs d m) (he : m.ioStore v mask r = .ok e) :
      DataEffect regs d e

theorem DataEffect.setPair {regs : List Reg} {d m : Device} {r : Reg} (h : DataEffect regs d m) (hlow : r ∈ regs)
    (hhigh : r + 1 ∈ regs) (v : Word) : DataEffect regs d (m.setPair r v) :=
  (h.setReg hlow _).setReg hhigh _

/-- The pointer's update of an indirect form: the pair is among `regs` when the mode moves it (R300). -/
theorem DataEffect.ptrUpdate {regs : List Reg} {d m : Device} {p : Ptr} {mode : PtrMode} (h : DataEffect regs d m)
    (hp : mode = .postInc ∨ mode = .preDec → p.low ∈ regs ∧ p.low + 1 ∈ regs) (old : Word) :
    DataEffect regs d (m.ptrUpdate p old mode) := by
  cases mode with
  | plain | disp q => exact h
  | postInc => exact h.setPair (hp (.inl rfl)).1 (hp (.inl rfl)).2 _
  | preDec => exact h.setPair (hp (.inr rfl)).1 (hp (.inr rfl)).2 _

theorem DataEffect.ioRead {regs : List Reg} {d e : Device} {a : Nat} {v : Byte} (h : d.ioRead a = .ok (v, e)) :
    DataEffect regs d e := by
  rcases d.ioRead_cases a with ⟨r, -, he⟩ | ⟨-, he⟩ <;> rw [he] at h <;> cases h
  exact DataEffect.refl.afterIoRead r

theorem DataEffect.memRead {regs : List Reg} {d e : Device} {a : Word} {v : Byte} (h : d.memRead a = .ok (v, e)) :
    DataEffect regs d e := by
  rcases memRead_cases h with ⟨-, -, rfl⟩ | ⟨-, -, r, -, -, rfl⟩ | ⟨-, -, -, rfl⟩
  · exact .refl
  · exact DataEffect.refl.afterIoRead r
  · exact .refl

theorem DataEffect.ioWrite {regs : List Reg} {d e : Device} {a : Nat} {v mask : Byte}
    (h : d.ioWrite a v mask = .ok e) : DataEffect regs d e := by
  rcases d.ioWrite_cases a v mask with ⟨r, -, he⟩ | ⟨-, he⟩ <;> rw [he] at h
  · exact DataEffect.refl.ioStore h
  · cases h

/-- A store below 0x20 names the register it writes (R32, R89). -/
theorem DataEffect.memWrite {regs : List Reg} {d e : Device} {a : Word} {v : Byte}
    (ha : a.toNat ≤ 0x1F → Fin.ofNat 32 a.toNat ∈ regs) (h : d.memWrite a v = .ok e) : DataEffect regs d e := by
  rcases memWrite_cases h with ⟨hreg, rfl⟩ | ⟨-, -, r, -, hr⟩ | ⟨hlow, hhigh, rfl⟩
  · exact DataEffect.refl.setReg (ha hreg) v
  · exact DataEffect.refl.ioStore hr
  · exact DataEffect.refl.setSramByte hlow hhigh v

theorem DataEffect.push8 {regs : List Reg} {d m e : Device} {v : Byte} (hm : DataEffect regs d m)
    (h : m.push8 v = .ok e) : DataEffect regs d e := by
  rcases m.push8_cases v with ⟨hsp, he⟩ | ⟨-, he⟩ <;> rw [he] at h <;> cases h
  simp only [inSram, Bool.and_eq_true, decide_eq_true_eq] at hsp
  exact (hm.setSramByte hsp.1 hsp.2 v).setSp _

theorem DataEffect.pop8 {regs : List Reg} {d e : Device} {v : Byte} (h : d.pop8 = .ok (v, e)) :
    DataEffect regs d e := by
  rcases d.pop8_cases with ⟨-, he⟩ | ⟨-, he⟩ <;> rw [he] at h <;> cases h
  exact DataEffect.refl.setSp _

theorem DataEffect.pushBytes {regs : List Reg} {d : Device} (vs : List Byte) {m e : Device}
    (hm : DataEffect regs d m) (h : m.pushBytes vs = .ok e) : DataEffect regs d e := by
  induction vs generalizing m with
  | nil => cases h; exact hm
  | cons v vs ih =>
    rw [Device.pushBytes] at h
    cases hpush : m.push8 v with
    | error f => rw [hpush] at h; cases h
    | ok m' => rw [hpush] at h; exact ih (hm.push8 hpush) h

/-! ### The end of an instruction -/

/-- `Ends c m e`: an instruction whose changes of data have made `m` ends in `e`. T moves on, and `inhibit` is left
set by what sets SREG.I alone (R37, R414, R417, R530). -/
structure Ends (c : Config) (m e : Device) : Prop where
  frame : e = { m with pc := e.pc, time := e.time, inhibit := e.inhibit, mode := e.mode }
  pcInRange : e.pc.toNat < c.pcModulus
  timeMoves : m.time < e.time
  inhibitHasI : e.inhibit = true → m.iFlag = true
  mode : e.mode = m.mode ∨ e.mode = .sleeping ∧ e.inhibit = false

theorem advance_ends (c : Config) (m : Device) (words : ProgAddr) {cycles : Nat} (hc : 0 < cycles) :
    Ends c m (m.advance c words cycles) where
  frame := rfl
  pcInRange := c.wrapPc_lt _
  timeMoves := Nat.lt_add_of_pos_right hc
  inhibitHasI := nofun
  mode := .inl rfl

theorem jumpTo_ends {c : Config} (m : Device) {target : ProgAddr} {cycles : Nat} (ht : target.toNat < c.pcModulus)
    (hc : 0 < cycles) : Ends c m (m.jumpTo target cycles) where
  frame := rfl
  pcInRange := ht
  timeMoves := Nat.lt_add_of_pos_right hc
  inhibitHasI := nofun
  mode := .inl rfl

/-- SLEEP's ending (R391). -/
theorem sleep_ends (c : Config) (m : Device) : Ends c m { m.advance c 1 1 with mode := .sleeping } :=
  { advance_ends c m 1 Nat.one_pos with frame := rfl, mode := .inr ⟨rfl, rfl⟩ }

/-- The ending of BSET 7 and RETI, which have set SREG.I (R414). -/
theorem Ends.setInhibit {c : Config} {m e : Device} (h : Ends c m e) (hmode : e.mode = m.mode) {b : Bool}
    (hb : b = true → m.iFlag = true) : Ends c m { e with inhibit := b } where
  frame := by conv_lhs => rw [h.frame]
  pcInRange := h.pcInRange
  timeMoves := h.timeMoves
  inhibitHasI := hb
  mode := .inl hmode

/-! ### Targets and costs -/

theorem relTarget_lt (c : Config) (d : Device) {n : Nat} (k : BitVec n) : (d.relTarget c k).toNat < c.pcModulus :=
  c.wrapPc_lt _

/-- A 16-bit target is below M at either width (R253). -/
theorem ptrTarget_lt (c : Config) (d : Device) (p : Ptr) : ((d.ptr p).setWidth 17).toNat < c.pcModulus := by
  rw [BitVec.toNat_setWidth]
  have := (d.ptr p).isLt
  rcases c.pcModulus_cases with h | h <;> omega

theorem wideCost_pos (c : Config) (n : Nat) : 0 < c.wideCost (n + 1) := by
  unfold Config.wideCost
  split <;> exact Nat.succ_pos _

/-! ### An instruction's effect -/

/-- `Executes c regs d e`: an instruction that writes general registers among `regs` alone completes, and makes `e` of
`d`. -/
def Executes (c : Config) (regs : List Reg) (d e : Device) : Prop := ∃ m, DataEffect regs d m ∧ Ends c m e

/-- The effect `x` of `d`, if it raises no fault, is one of `Executes`. -/
def Yields (c : Config) (regs : List Reg) (d : Device) (x : Except FaultDetail Device) : Prop :=
  ∀ e, x = .ok e → Executes c regs d e

theorem Yields.of_executes {c : Config} {regs : List Reg} {d e : Device} (h : Executes c regs d e) :
    Yields c regs d (.ok e) := by
  rintro _ ⟨⟩
  exact h

theorem Yields.of_error (c : Config) (regs : List Reg) (d : Device) (f : FaultDetail) :
    Yields c regs d (.error f) := fun _ h => by cases h

theorem Yields.map {α : Type} {c : Config} {regs : List Reg} {d : Device} {x : Except FaultDetail α}
    {f : α → Device} (h : ∀ a, x = .ok a → Executes c regs d (f a)) : Yields c regs d (x.map f) := by
  cases x with
  | error e => exact .of_error c regs d e
  | ok a => exact .of_executes (h a rfl)

section
variable {c : Config} {regs : List Reg} {d m : Device}

theorem DataEffect.advance (h : DataEffect regs d m) (words : ProgAddr) {cycles : Nat} (hc : 0 < cycles) :
    Executes c regs d (m.advance c words cycles) := ⟨m, h, advance_ends c m words hc⟩

theorem DataEffect.jumpTo (h : DataEffect regs d m) {target : ProgAddr} {cycles : Nat}
    (ht : target.toNat < c.pcModulus) (hc : 0 < cycles) : Executes c regs d (m.jumpTo target cycles) :=
  ⟨m, h, m.jumpTo_ends ht hc⟩

theorem checkedJump_yields (target cycles : Nat) :
    Yields c regs d ((checkTarget c target).map fun t => d.jumpTo t (cycles + 1)) :=
  .map fun t ht => DataEffect.refl.jumpTo (by have := checkTarget_lt ht; omega) cycles.succ_pos

theorem call_yields (words : ProgAddr) {target : ProgAddr} {cycles : Nat} (ht : target.toNat < c.pcModulus)
    (hc : 0 < cycles) : Yields c regs d (d.call c words target cycles) :=
  .map fun _ h => (DataEffect.refl.pushBytes _ h).jumpTo ht hc

/-- A call whose target is checked first (R250, R409). -/
theorem checkedCall_yields (words : ProgAddr) (target : Nat) {cycles : Nat} (hc : 0 < cycles) :
    Yields c regs d (match checkTarget c target with
      | .ok t => d.call c words t cycles
      | .error e => .error e) := by
  cases h : checkTarget c target with
  | ok t => exact call_yields words (by have := checkTarget_lt h; omega) hc
  | error e => exact .of_error c regs d e

theorem returnTo_yields : Yields c regs d (d.returnTo c) := fun _ h => by
  obtain ⟨hframe, hpc⟩ := returnTo_frame h
  rw [hframe]
  exact (DataEffect.refl.setSp (d.sp + BitVec.ofNat 16 c.pcBits.raBytes)).jumpTo hpc (wideCost_pos c 3)

/-- RETI sets SREG.I and, with it, `inhibit` (R261). -/
theorem returnFromInterrupt_yields : Yields c regs d (d.returnFromInterrupt c) := .map fun e h => by
  obtain ⟨hframe, hpc⟩ := returnTo_frame h
  rw [hframe]
  refine ⟨_, (DataEffect.refl.setSp (d.sp + BitVec.ofNat 16 c.pcBits.raBytes)).setSreg (setBit d.sreg 7 true),
    (jumpTo_ends _ hpc (wideCost_pos c 3)).setInhibit rfl fun _ => ?_⟩
  rw [iFlag, setSreg_sreg, bitOf_setBit _ _ _ _ (by decide), if_pos rfl]

/-- BSET sets `inhibit` when it sets I (R364, R414). -/
theorem bset_executes (f : Fin 8) :
    Executes c regs d { (d.setSreg (setBit d.sreg f.val true)).advance c 1 1 with inhibit := f.val == 7 } := by
  refine ⟨_, DataEffect.refl.setSreg _, (advance_ends c _ 1 Nat.one_pos).setInhibit rfl fun hf => ?_⟩
  rw [iFlag, setSreg_sreg, bitOf_setBit _ _ _ _ f.isLt, if_pos (beq_iff_eq.mp hf).symm]

theorem skipIf_yields (hm : DataEffect regs d m) (cond : Bool) : Yields c regs d (m.skipIf c cond) := fun e h => by
  obtain ⟨n, hn, rfl⟩ := skipIf_cases h
  exact hm.advance _ (by omega)

theorem skipOnIo_yields (a : BitVec 5) (b : Fin 8) (want : Bool) : Yields c regs d (d.skipOnIo c a b want) := by
  unfold skipOnIo
  cases h : d.ioRead (ioAddr a) with
  | error e => exact .of_error c regs d e
  | ok r => exact skipIf_yields (.ioRead h) _

theorem loadFrom_yields {rd : Reg} (hrd : rd ∈ regs) (a : Word) (words : ProgAddr) :
    Yields c regs d (d.loadFrom c rd a words) :=
  .map fun _ h => ((DataEffect.memRead h).setReg hrd _).advance words Nat.two_pos

theorem load_yields {rd : Reg} {p : Ptr} {mode : PtrMode} (hrd : rd ∈ regs)
    (hp : mode = .postInc ∨ mode = .preDec → p.low ∈ regs ∧ p.low + 1 ∈ regs) :
    Yields c regs d (d.load c rd p mode) :=
  .map fun _ h => (((DataEffect.memRead h).ptrUpdate hp _).setReg hrd _).advance 1 Nat.two_pos

theorem storeTo_yields {a : Word} (ha : a.toNat ≤ 0x1F → Fin.ofNat 32 a.toNat ∈ regs) (rr : Reg)
    (words : ProgAddr) : Yields c regs d (d.storeTo c rr a words) :=
  .map fun _ h => (DataEffect.memWrite ha h).advance words Nat.two_pos

theorem store_yields {p : Ptr} {mode : PtrMode}
    (ha : (d.ptrAddr p mode).toNat ≤ 0x1F → Fin.ofNat 32 (d.ptrAddr p mode).toNat ∈ regs)
    (hp : mode = .postInc ∨ mode = .preDec → p.low ∈ regs ∧ p.low + 1 ∈ regs) (rr : Reg) :
    Yields c regs d (d.store c rr p mode) :=
  .map fun _ h => ((DataEffect.memWrite ha h).ptrUpdate hp _).advance 1 Nat.two_pos

theorem loadProg_yields {rd : Reg} (hrd : rd ∈ regs) (a : Nat) {after : Device → Device}
    (h : DataEffect regs d (after d)) : Yields c regs d (d.loadProg c rd a after) :=
  .map fun _ _ => (h.setReg hrd _).advance 1 (Nat.succ_pos 2)

/-- A branch goes to its relative target or on to the next instruction (R271, R272). -/
theorem branch_yields (taken : Bool) {n : Nat} (k : BitVec n) :
    Yields c regs d (.ok (if taken then d.jumpTo (d.relTarget c k) 2 else d.advance c 1 1)) := by
  refine .of_executes ?_
  split
  · exact DataEffect.refl.jumpTo (relTarget_lt c d k) Nat.two_pos
  · exact DataEffect.refl.advance 1 Nat.one_pos

end

end Device

open Device

/-! ### Every instruction -/

section
variable {c : Config} {d : Device} {i : Instr}

theorem mem_writtenRegs_of_dest {r : Reg} (h : r ∈ Instr.dests i) : r ∈ Instr.writtenRegs c d i :=
  List.mem_append_left _ (List.mem_append_left _ h)

theorem mem_writtenRegs_of_movedPtr {p : Ptr} (h : Instr.movedPtr i = some p) :
    p.low ∈ Instr.writtenRegs c d i ∧ p.low + 1 ∈ Instr.writtenRegs c d i := by
  simp [Instr.writtenRegs, h]

theorem mem_writtenRegs_of_store {a : Word} (h : Instr.access c d i = .store a) (ha : a.toNat ≤ 0x1F) :
    Fin.ofNat 32 a.toNat ∈ Instr.writtenRegs c d i := by
  simp [Instr.writtenRegs, h, ha]

end

/-- Every instruction retires an effect of the Device under study that, unless it is a fault, is one of `Executes`
with the instruction's written registers. -/
theorem exec_executes (i : Instr) (s : State) :
    ∃ x, exec i s = s.retire x ∧ Yields s.cfg (Instr.writtenRegs s.cfg s.dev i) s.dev x := by
  cases i with
  | add | adc | sub | subi | sbc | sbci | and | andi | or | ori | eor | com | neg | inc | dec | lsr | ror | asr | swap
  | bld =>
    exact ⟨_, rfl, .of_executes (((DataEffect.refl.setReg (mem_writtenRegs_of_dest (by simp [Instr.dests])) _).setSreg
      _).advance 1 Nat.one_pos)⟩
  | adiw | sbiw =>
    exact ⟨_, rfl, .of_executes (((DataEffect.refl.setPair (mem_writtenRegs_of_dest (by simp [Instr.dests]))
      (mem_writtenRegs_of_dest (by simp [Instr.dests])) _).setSreg _).advance 1 Nat.two_pos)⟩
  | mul | muls | mulsu | fmul | fmuls | fmulsu =>
    exact ⟨_, rfl, .of_executes (((DataEffect.refl.setPair (mem_writtenRegs_of_dest (by simp [Instr.dests]))
      (mem_writtenRegs_of_dest (by simp [Instr.dests])) _).setSreg _).advance 1 Nat.two_pos)⟩
  | cp | cpc | cpi | bclr | bst =>
    exact ⟨_, rfl, .of_executes ((DataEffect.refl.setSreg _).advance 1 Nat.one_pos)⟩
  | bset f => exact ⟨_, rfl, .of_executes (bset_executes f)⟩
  | nop | wdr | brk => exact ⟨_, rfl, .of_executes (DataEffect.refl.advance 1 Nat.one_pos)⟩
  | mov | ldi =>
    exact ⟨_, rfl, .of_executes
      ((DataEffect.refl.setReg (mem_writtenRegs_of_dest (by simp [Instr.dests])) _).advance 1 Nat.one_pos)⟩
  | movw =>
    exact ⟨_, rfl, .of_executes ((DataEffect.refl.setPair (mem_writtenRegs_of_dest (by simp [Instr.dests]))
      (mem_writtenRegs_of_dest (by simp [Instr.dests])) _).advance 1 Nat.one_pos)⟩
  | rjmp k => exact ⟨_, rfl, .of_executes (DataEffect.refl.jumpTo (relTarget_lt _ _ k) Nat.two_pos)⟩
  | ijmp => exact ⟨_, rfl, .of_executes (DataEffect.refl.jumpTo (ptrTarget_lt _ _ .z) Nat.two_pos)⟩
  | eijmp | jmp => exact ⟨_, rfl, checkedJump_yields _ _⟩
  | rcall k => exact ⟨_, rfl, call_yields 1 (relTarget_lt _ _ k) (wideCost_pos _ 2)⟩
  | icall => exact ⟨_, rfl, call_yields 1 (ptrTarget_lt _ _ .z) (wideCost_pos _ 2)⟩
  | eicall => exact ⟨_, rfl, checkedCall_yields 1 _ (wideCost_pos _ 2)⟩
  | call => exact ⟨_, rfl, checkedCall_yields 2 _ (wideCost_pos _ 3)⟩
  | ret => exact ⟨_, rfl, returnTo_yields⟩
  | reti => exact ⟨_, rfl, returnFromInterrupt_yields⟩
  | cpse | sbrc | sbrs => exact ⟨_, rfl, skipIf_yields .refl _⟩
  | sbic | sbis => exact ⟨_, rfl, skipOnIo_yields _ _ _⟩
  | brbs | brbc => exact ⟨_, rfl, branch_yields _ _⟩
  | lds => exact ⟨_, rfl, loadFrom_yields (mem_writtenRegs_of_dest (by simp [Instr.dests])) _ _⟩
  | ldX | ldXInc | ldDecX | ldYInc | ldDecY | ldY | lddY | ldZInc | ldDecZ | ldZ | lddZ =>
    exact ⟨_, rfl, load_yields (mem_writtenRegs_of_dest (by simp [Instr.dests]))
      (by simp [Instr.writtenRegs, Instr.movedPtr])⟩
  | sts => exact ⟨_, rfl, storeTo_yields (mem_writtenRegs_of_store rfl) _ _⟩
  | stX | stXInc | stDecX | stYInc | stDecY | stY | stdY | stZInc | stDecZ | stZ | stdZ =>
    exact ⟨_, rfl, store_yields (mem_writtenRegs_of_store rfl)
      (by simp [Instr.writtenRegs, Instr.movedPtr]) _⟩
  | lpm | lpmZ | elpm | elpmZ =>
    exact ⟨_, rfl, loadProg_yields (mem_writtenRegs_of_dest (by simp [Instr.dests])) _ .refl⟩
  | lpmZInc d =>
    obtain ⟨hlow, hhigh⟩ := mem_writtenRegs_of_movedPtr (c := s.cfg) (d := s.dev) (i := .lpmZInc d) rfl
    exact ⟨_, rfl, loadProg_yields (mem_writtenRegs_of_dest (by simp [Instr.dests])) _
      (DataEffect.refl.setPair hlow hhigh _)⟩
  | elpmZInc d =>
    obtain ⟨hlow, hhigh⟩ := mem_writtenRegs_of_movedPtr (c := s.cfg) (d := s.dev) (i := .elpmZInc d) rfl
    exact ⟨_, rfl, loadProg_yields (mem_writtenRegs_of_dest (by simp [Instr.dests])) _
      ((DataEffect.refl.setRampz _).setPair hlow hhigh _)⟩
  | spm => exact ⟨_, rfl, .of_error _ _ _ _⟩
  | ioIn =>
    exact ⟨_, rfl, .map fun _ h =>
      ((DataEffect.ioRead h).setReg (mem_writtenRegs_of_dest (by simp [Instr.dests])) _).advance 1 Nat.one_pos⟩
  | ioOut => exact ⟨_, rfl, .map fun _ h => (DataEffect.ioWrite h).advance 1 Nat.one_pos⟩
  | sbi | cbi => exact ⟨_, rfl, .map fun _ h => (DataEffect.ioWrite h).advance 1 Nat.two_pos⟩
  | push => exact ⟨_, rfl, .map fun _ h => (DataEffect.refl.push8 h).advance 1 Nat.two_pos⟩
  | pop =>
    exact ⟨_, rfl, .map fun _ h =>
      ((DataEffect.pop8 h).setReg (mem_writtenRegs_of_dest (by simp [Instr.dests])) _).advance 1 Nat.two_pos⟩
  | sleep =>
    refine ⟨_, rfl, ?_⟩
    split
    · exact .of_executes (DataEffect.refl.advance 1 Nat.one_pos)
    · split
      · exact .of_executes ⟨_, .refl, sleep_ends _ _⟩
      · exact .of_error _ _ _ _

/-! ### The registers an instruction leaves -/

namespace Device

/-- What a write to a register of the I/O window can change (R92). -/
theorem ioStore_eq {d e : Device} {v mask : Byte} {r : IoReg} (h : d.ioStore v mask r = .ok e) :
    e = { d with
      sreg := e.sreg
      sp := e.sp
      ctl := e.ctl
      timer := e.timer
      usart := e.usart
      ports := e.ports
      draws := e.draws } := by
  obtain ⟨htimer, husart, hport, hcore⟩ := ioStore_frame h
  cases hu : r.unit with
  | timer => rw [htimer hu]
  | usart => rw [husart hu]
  | port p => obtain ⟨q, rfl⟩ := hport p hu; rfl
  | core => rw [hcore hu]

theorem DataEffect.reg {regs : List Reg} {d e : Device} (h : DataEffect regs d e) {r : Reg} (hr : r ∉ regs) :
    e.reg r = d.reg r := by
  induction h with
  | refl => rfl
  | setReg _ hq _ ih => rw [reg_setReg, if_neg (ne_of_mem_of_not_mem hq hr).symm, ih]
  | setSreg _ _ ih | setSp _ _ ih | setSramByte _ _ _ _ ih | setRampz _ _ ih => exact ih
  | @afterIoRead m _ q ih => rw [(m.afterIoRead_frame q).1]; exact ih
  | ioStore _ he ih => rw [ioStore_eq he]; exact ih

theorem Executes.reg {c : Config} {regs : List Reg} {d e : Device} (h : Executes c regs d e) {r : Reg}
    (hr : r ∉ regs) : e.reg r = d.reg r := by
  obtain ⟨m, hdata, hends⟩ := h
  rw [hends.frame]
  exact hdata.reg hr

end Device

/-- Settles O26: an instruction that completes writes general registers among its written ones alone, and one that
faults writes none. -/
theorem registerFrame : Obligations.RegisterFrame := by
  unfold Obligations.RegisterFrame
  intro i s t r h hr
  obtain ⟨x, hx, hyields⟩ := exec_executes i s
  rw [hx] at h
  cases x with
  | ok e =>
    cases h
    exact (hyields e rfl).reg hr
  | error f =>
    cases h
    rfl

end Sys2Proof.Machine
end

section
/-! SUPPORT. What a boundary and a whole step can make of a Device, said once (R417, R424, R530): an invariant of every
Device is kept by a step when every case of `Acts`, `settle` and a tick keep it. -/

namespace Sys2Proof.Machine

namespace Device

/-- `Acts c d e`: a Device `d` whose T has come starts a step that makes `e` of it, before its `fired` latches follow
their flags (R417, R424). -/
inductive Acts (c : Config) (d : Device) : Device → Prop
  | frozen (h : d.isHalted = true) : Acts c d d
  | halts (h : d.isHalted = false) (f : FaultDetail) : Acts c d (d.halt f)
  /-- A sleeping Device wakes whatever `inhibit` is (R424). -/
  | vectors {e : Device} (h : d.mode = .running ∧ d.inhibit = false ∨ d.mode = .sleeping) {v : Vec} {wake : Nat}
      (he : d.takeVector c v wake = .ok e) : Acts c d e
  | idles (h : d.mode = .sleeping) : Acts c d d.idle
  | executes {e : Device} {regs : List Reg} (h : d.mode = .running) (he : Executes c regs d e) : Acts c d e

/-- `Passes c k d e`: step 1 of cycle k makes `e` of the Device `d` (R530). -/
def Passes (c : Config) (k : Nat) (d e : Device) : Prop :=
  d.time ≠ k ∧ e = d ∨ d.time = k ∧ ∃ a, Acts c d a ∧ e = a.settle

/-- `Steps c k d e`: cycle k makes `e` of the Device `d`. -/
def Steps (c : Config) (k : Nat) (d e : Device) : Prop := ∃ a level, Passes c k d a ∧ e = a.tick k level

theorem isHalted_eq_false {d : Device} (h : d.mode = .running ∨ d.mode = .sleeping) : d.isHalted = false := by
  unfold isHalted
  rcases h with h | h <;> rw [h]

theorem settle_of_halted {d : Device} (h : d.isHalted = true) : d.settle = d := if_pos h

theorem settle_of_not_halted {d : Device} (h : d.isHalted = false) : d.settle = d.refreshFired :=
  if_neg (by simp [h])

theorem tick_of_halted {d : Device} (h : d.isHalted = true) (k : Nat) (level : PortName → Fin 8 → Level) :
    d.tick k level = d := if_pos h

end Device

namespace State

open Device

/-- The vectoring sequence, when it is due. -/
theorem takeInterrupt_acts {s : State} (h : s.dev.mode = .running ∧ s.dev.inhibit = false ∨ s.dev.mode = .sleeping)
    (v : Vec) (wake : Nat) : ∃ e, s.takeInterrupt v wake = .next { s with dev := e } ∧ Acts s.cfg s.dev e := by
  unfold takeInterrupt
  cases he : s.dev.takeVector s.cfg v wake with
  | ok e => exact ⟨e, rfl, .vectors h he⟩
  | error f => exact ⟨_, rfl, .halts (isHalted_eq_false (h.imp_left And.left)) f⟩

theorem runInstr_acts {s : State} (h : s.dev.mode = .running) :
    ∃ e, s.runInstr = .next { s with dev := e } ∧ Acts s.cfg s.dev e := by
  have hhalted := isHalted_eq_false (.inl h)
  unfold runInstr
  cases s.dev.fetchInstr s.cfg with
  | error f => exact ⟨_, rfl, .halts hhalted f⟩
  | ok i =>
    obtain ⟨x, hx, hyields⟩ := exec_executes i s
    simp only [hx]
    cases x with
    | error f => exact ⟨_, rfl, .halts hhalted f⟩
    | ok e => exact ⟨e, rfl, .executes h (hyields e rfl)⟩

theorem act_acts (s : State) : ∃ e, s.act = .next { s with dev := e } ∧ Acts s.cfg s.dev e := by
  unfold act
  cases hmode : s.dev.mode with
  | halted r => exact ⟨s.dev, rfl, .frozen (by rw [isHalted, hmode])⟩
  | sleeping =>
    cases s.dev.wakeup with
    | none => exact ⟨_, rfl, .idles hmode⟩
    | some v => exact takeInterrupt_acts (.inr hmode) v _
  | running =>
    cases hv : s.dev.interrupt with
    | none => exact runInstr_acts hmode
    | some v =>
      refine takeInterrupt_acts (.inl ⟨hmode, ?_⟩) v 0
      cases hi : s.dev.inhibit with
      | false => rfl
      | true => simp [Device.interrupt, hi] at hv

theorem boundary_passes (s : State) :
    ∃ e, s.boundary = .next { s with dev := e } ∧ Passes s.cfg s.cycle s.dev e := by
  by_cases h : s.dev.time = s.cycle
  · obtain ⟨a, hact, ha⟩ := s.act_acts
    refine ⟨a.settle, ?_, .inr ⟨h, a, ha, rfl⟩⟩
    rw [boundary, if_pos h, hact]
    rfl
  · exact ⟨s.dev, boundary_of_time_ne h, .inl ⟨h, rfl⟩⟩

theorem siblingBoundary_passes (s : State) (d : Device) : Passes s.cfg s.cycle d (s.siblingBoundary d) := by
  obtain ⟨e, he, hpasses⟩ := boundary_passes { s with dev := d }
  rw [siblingBoundary, he]
  exact hpasses

theorem mem_tickDevices {k i : Nat} {level : Endpoint → Level} {ds : List Device} {e : Device}
    (h : e ∈ tickDevices k level i ds) : ∃ d ∈ ds, ∃ pins, e = d.tick k pins := by
  obtain ⟨j, hj⟩ := List.mem_iff_getElem?.mp h
  rw [getElem?_tickDevices, Option.map_eq_some_iff] at hj
  obtain ⟨d, hd, rfl⟩ := hj
  exact ⟨d, List.mem_of_getElem? hd, _, rfl⟩

theorem mem_tickTerminals {k i : Nat} {level : Endpoint → Level} {vs : List Terminal} {w : Terminal}
    (h : w ∈ tickTerminals k level i vs) : ∃ v ∈ vs, ∃ line, w = v.tick k line := by
  induction vs generalizing i with
  | nil => cases h
  | cons v vs ih =>
    rcases List.mem_cons.mp h with rfl | h
    · exact ⟨v, List.mem_cons_self, _, rfl⟩
    · obtain ⟨v', hv', hw⟩ := ih h
      exact ⟨v', List.mem_cons_of_mem v hv', hw⟩

/-- A step is one cycle of every Device, and one tick of every terminal. -/
theorem step_steps {s t : State} (h : step s = .next t) :
    t.cfg = s.cfg ∧ t.cycle = s.cycle + 1 ∧ Steps s.cfg s.cycle s.dev t.dev ∧
    (∀ e ∈ t.siblings, ∃ d ∈ s.siblings, Steps s.cfg s.cycle d e) ∧
    ∀ w ∈ t.terminals, ∃ v ∈ s.terminals, ∃ line, w = v.tick s.cycle line := by
  obtain ⟨d, hboundary, -, rfl⟩ := step_cases h
  obtain ⟨d', hd', hpasses⟩ := s.boundary_passes
  obtain rfl : d = d' := congrArg State.dev (Host.Outcome.next.inj (hboundary.symm.trans hd'))
  refine ⟨finishCycle_cfg _, finishCycle_cycle _, ⟨d, _, hpasses, finishCycle_dev _⟩, fun e he => ?_, fun w hw => ?_⟩
  · rw [finishCycle_siblings] at he
    obtain ⟨a, ha, pins, rfl⟩ := mem_tickDevices he
    obtain ⟨b, hb, rfl⟩ := List.mem_map.mp ha
    exact ⟨b, hb, _, pins, siblingBoundary_passes _ b, rfl⟩
  · rw [finishCycle_terminals] at hw
    exact mem_tickTerminals hw

end State

end Sys2Proof.Machine
end

section
/-! SUPPORT. The invariant of the memories, the program counter, the clock and the fault record (`Device.CoreInv`),
operation by operation. -/

namespace Sys2Proof.Machine

/-- A write adds no cell but its own. -/
theorem Memory.mem_write {space : Space} {m : Memory} {a : Nat} {v : Byte} {cell : Host.Cell}
    (h : cell ∈ Memory.write space m a v) : cell ∈ m ∨ cell = (a, v) := by
  induction m with
  | nil =>
    rw [Memory.write] at h
    split at h
    · cases h
    · exact .inr (List.mem_singleton.mp h)
  | cons c m ih =>
    obtain ⟨k, w⟩ := c
    rw [Memory.write] at h
    split_ifs at h
    · exact .inl h
    · exact (List.mem_cons.mp h).symm
    · exact .inl (List.mem_cons_of_mem _ h)
    · exact (List.mem_cons.mp h).symm.imp_left (List.mem_cons_of_mem _)
    · rcases List.mem_cons.mp h with rfl | h
      · exact .inl List.mem_cons_self
      · exact (ih h).imp_left (List.mem_cons_of_mem _)

namespace Device

section
variable {c : Config} {k : Nat} {d e : Device}

/-- `CoreInv` reads six fields. -/
theorem CoreInv.of_eq (h : d.CoreInv c k) (hname : e.name = d.name) (hprog : e.prog = d.prog)
    (hsram : e.sram = d.sram) (hpc : e.pc = d.pc) (htime : e.time = d.time) (hmode : e.mode = d.mode) :
    e.CoreInv c k where
  sramCanonical := hsram ▸ h.sramCanonical
  sramInRange := hsram ▸ h.sramInRange
  progCanonical := hprog ▸ h.progCanonical
  pcInRange := hpc ▸ h.pcInRange
  notLate hhalted := htime ▸ h.notLate (by rwa [isHalted, hmode] at hhalted)
  recordTrue r hr := by
    rw [hname, hpc, htime]
    exact h.recordTrue r (hmode ▸ hr)

theorem CoreInv.setSramByte (h : d.CoreInv c k) {a : Nat} (hlow : 0x200 ≤ a) (hhigh : a ≤ 0x21FF) (v : Byte) :
    (d.setSramByte a v).CoreInv c k :=
  { h with
    sramCanonical := Memory.wf_write a v h.sramCanonical
    sramInRange := fun cell hcell => by
      rcases Memory.mem_write hcell with hold | rfl
      · exact h.sramInRange cell hold
      · exact ⟨hlow, hhigh⟩ }

theorem ioStore_coreInv {v mask : Byte} {r : IoReg} (h : d.CoreInv c k) (he : d.ioStore v mask r = .ok e) :
    e.CoreInv c k := by
  rw [ioStore_eq he]
  exact h.of_eq rfl rfl rfl rfl rfl rfl

theorem afterIoRead_coreInv (h : d.CoreInv c k) (r : IoReg) : (d.afterIoRead r).CoreInv c k := by
  rw [(d.afterIoRead_frame r).1]
  exact h.of_eq rfl rfl rfl rfl rfl rfl

theorem DataEffect.coreInv {regs : List Reg} (h : DataEffect regs d e) (hd : d.CoreInv c k) : e.CoreInv c k := by
  induction h with
  | refl => exact hd
  | setReg _ _ _ ih | setSreg _ _ ih | setSp _ _ ih | setRampz _ _ ih => exact ih.of_eq rfl rfl rfl rfl rfl rfl
  | setSramByte _ hlow hhigh v ih => exact ih.setSramByte hlow hhigh v
  | afterIoRead _ r ih => exact afterIoRead_coreInv ih r
  | ioStore _ he ih => exact ioStore_coreInv ih he

theorem DataEffect.mode {regs : List Reg} (h : DataEffect regs d e) : e.mode = d.mode := by
  induction h with
  | refl => rfl
  | setReg _ _ _ ih | setSreg _ _ ih | setSp _ _ ih | setRampz _ _ ih | setSramByte _ _ _ _ ih => exact ih
  | @afterIoRead m _ r ih => rw [(m.afterIoRead_frame r).1]; exact ih
  | ioStore _ he ih => rw [ioStore_eq he]; exact ih

theorem Executes.mode {regs : List Reg} (h : Executes c regs d e) (hd : d.mode = .running) :
    e.mode = .running ∨ e.mode = .sleeping ∧ e.inhibit = false := by
  obtain ⟨m, hdata, hends⟩ := h
  exact hends.mode.imp_left fun hm => hm.trans (hdata.mode.trans hd)

/-- A Device whose pc and T have moved, and which runs or sleeps. -/
theorem CoreInv.of_moved (h : d.CoreInv c k) (hprog : e.prog = d.prog) (hsram : e.sram = d.sram)
    (hpc : e.pc.toNat < c.pcModulus) (htime : k < e.time) (hmode : e.mode = .running ∨ e.mode = .sleeping) :
    e.CoreInv c (k + 1) where
  sramCanonical := hsram ▸ h.sramCanonical
  sramInRange := hsram ▸ h.sramInRange
  progCanonical := hprog ▸ h.progCanonical
  pcInRange := hpc
  notLate _ := htime
  recordTrue r hr := by rcases hmode with hm | hm <;> rw [hm] at hr <;> cases hr

/-- The record of a fault is true when it is made (R401). -/
theorem CoreInv.halt (h : d.CoreInv c k) (f : FaultDetail) : (d.halt f).CoreInv c (k + 1) :=
  { h with
    notLate := nofun
    recordTrue := by rintro _ ⟨⟩; exact ⟨rfl, rfl, rfl⟩ }

theorem Executes.coreInv {regs : List Reg} (h : Executes c regs d e) (hd : d.CoreInv c k) (hmode : d.mode = .running) :
    e.CoreInv c (k + 1) := by
  have he := h.mode hmode
  obtain ⟨m, hdata, hends⟩ := h
  have hm := hdata.coreInv hd
  refine hm.of_moved (by rw [hends.frame]) (by rw [hends.frame]) hends.pcInRange
    ((hm.notLate (isHalted_eq_false (.inl (hdata.mode.trans hmode)))).trans_lt hends.timeMoves) (he.imp_right And.left)

/-- A vector's address is below M (R415). -/
theorem address_lt (c : Config) (v : Vec) : v.address.toNat < c.pcModulus := by
  have hv : v.address.toNat ≤ 54 := by cases v <;> decide
  rcases c.pcModulus_cases with h | h <;> omega

theorem takeVector_coreInv {v : Vec} {wake : Nat} (h : d.takeVector c v wake = .ok e) (hd : d.CoreInv c k)
    (hmode : d.isHalted = false) : e.CoreInv c (k + 1) := by
  obtain ⟨m, hpush, rfl⟩ := takeVector_frame h
  have hm : m.CoreInv c k := (DataEffect.pushBytes (regs := []) _ .refl hpush).coreInv hd
  have htime : k < d.time + (c.wideCost 4 + wake) := by
    have := hd.notLate hmode
    have : 0 < c.wideCost 4 := wideCost_pos c 3
    omega
  cases v <;> exact hm.of_moved rfl rfl (address_lt c _) htime (.inl rfl)

theorem Acts.coreInv (h : Acts c d e) (hd : d.CoreInv c k) : e.CoreInv c (k + 1) := by
  cases h with
  | frozen hhalted => exact { hd with notLate := fun hn => by rw [hhalted] at hn; cases hn }
  | halts _ f => exact hd.halt f
  | vectors hmode he => exact takeVector_coreInv he hd (isHalted_eq_false (hmode.imp_left And.left))
  | idles hmode =>
    exact hd.of_moved rfl rfl hd.pcInRange (Nat.lt_succ_of_le (hd.notLate (isHalted_eq_false (.inr hmode))))
      (.inr hmode)
  | executes hmode he => exact he.coreInv hd hmode

theorem CoreInv.settle (h : d.CoreInv c k) : d.settle.CoreInv c k := by
  unfold Device.settle
  split
  · exact h
  · exact h.of_eq rfl rfl rfl rfl rfl rfl

theorem CoreInv.tick (h : d.CoreInv c k) (n : Nat) (level : PortName → Fin 8 → Level) :
    (d.tick n level).CoreInv c k := by
  unfold Device.tick
  split
  · exact h
  · exact h.of_eq rfl rfl rfl rfl rfl rfl

/-- A Device between two boundaries has its T ahead of the cycle (R530). -/
theorem Passes.coreInv (h : Passes c k d e) (hd : d.CoreInv c k) : e.CoreInv c (k + 1) := by
  rcases h with ⟨hne, rfl⟩ | ⟨-, a, hacts, rfl⟩
  · exact { hd with notLate := fun hn => Nat.lt_of_le_of_ne (hd.notLate hn) hne.symm }
  · exact (hacts.coreInv hd).settle

theorem Steps.coreInv (h : Steps c k d e) (hd : d.CoreInv c k) : e.CoreInv c (k + 1) := by
  obtain ⟨a, level, hpasses, rfl⟩ := h
  exact (hpasses.coreInv hd).tick k level

end

end Device

/-- Settles O47: a step is one cycle of every Device, which each keep their own invariant, case by case of what a
boundary can do and then through `settle` and the tick. -/
theorem stepKeepsCore : Obligations.StepKeepsCore := by
  unfold Obligations.StepKeepsCore
  intro s t hs h
  obtain ⟨hcfg, hcycle, hdev, hsiblings, -⟩ := State.step_steps h
  constructor <;> rw [hcfg, hcycle]
  case dev => exact hdev.coreInv hs.dev
  case siblings =>
    intro e he
    obtain ⟨d, hd, hsteps⟩ := hsiblings e he
    exact hsteps.coreInv (hs.siblings d hd)

end Sys2Proof.Machine
end

section
/-! SUPPORT. The peripherals' part of `Device.UnitInv`, unit by unit, kept by every operation that reaches the unit: a
write to one of its registers (R92), a tick (R530 step 4), a vector's acknowledgement (R416). -/

namespace Sys2Proof.Machine

/-! ### Reserved bits -/

theorem and_and_eq_zero {v reserved : Byte} (h : v &&& reserved = 0) (x : Byte) : v &&& x &&& reserved = 0 := by
  rw [BitVec.and_assoc, BitVec.and_comm x, ← BitVec.and_assoc, h]
  exact BitVec.zero_and

theorem or_and_eq_zero {v w reserved : Byte} (hv : v &&& reserved = 0) (hw : w &&& reserved = 0) :
    (v ||| w) &&& reserved = 0 := by
  rw [BitVec.and_or_distrib_right, hv, hw]
  exact BitVec.or_zero

theorem xor_and_eq_zero {v w reserved : Byte} (hv : v &&& reserved = 0) (hw : w &&& reserved = 0) :
    (v ^^^ w) &&& reserved = 0 := by
  have hdistrib : (v ^^^ w) &&& reserved = (v &&& reserved) ^^^ (w &&& reserved) :=
    BitVec.eq_of_getLsbD_eq fun i _ => by simp [Bool.and_xor_distrib_right]
  rw [hdistrib, hv, hw]
  exact BitVec.xor_zero

/-- A masked store leaves the bits outside the implemented ones alone (R92). -/
theorem storeBits_and_eq_zero {implemented reserved old : Byte} (hdisjoint : implemented &&& reserved = 0)
    (h : old &&& reserved = 0) (v mask : Byte) : storeBits implemented old v mask &&& reserved = 0 := by
  refine or_and_eq_zero (and_and_eq_zero h _) ?_
  rw [BitVec.and_comm v]
  refine and_and_eq_zero ?_ v
  rw [BitVec.and_comm mask]
  exact and_and_eq_zero hdisjoint mask

/-- Setting or clearing a bit that is not a reserved one. -/
theorem setBit_and_eq_zero {v reserved : Byte} {i : Nat} (hi : 1#8 <<< i &&& reserved = 0) (h : v &&& reserved = 0)
    (b : Bool) : setBit v i b &&& reserved = 0 := by
  unfold setBit
  split
  · exact or_and_eq_zero h hi
  · exact and_and_eq_zero h _

/-! ### The control registers (R40 to R43) -/

/-- The reserved bits of the control registers are 0. -/
structure Control.Legal (x : Control) : Prop where
  rampz : x.rampz &&& 0xFC = 0
  eind : x.eind &&& 0xFE = 0
  smcr : x.smcr &&& 0xF0 = 0
  mcucr : x.mcucr &&& 0x6F = 0

/-- Writing RAMPZ[1:0] leaves its reserved bits (R336). -/
theorem rampzMoved_and_eq_zero {v : Byte} (h : v &&& 0xFC = 0) (x : BitVec 2) :
    (v.extractLsb' 2 6 ++ x) &&& 0xFC = 0 := by
  have hhigh : v.extractLsb' 2 6 = 0 := by
    revert v
    decide
  rw [hhigh]
  revert x
  decide

/-! ### Timer0 (R45 to R48, R453, R469) -/

namespace Timer0

/-- The reserved bits of Timer0's registers are 0. -/
structure ReservedClear (t : Timer0) : Prop where
  tccr0a : t.tccr0a &&& 0x0C = 0
  tccr0b : t.tccr0b &&& 0xF0 = 0
  timsk0 : t.timsk0 &&& 0xF8 = 0
  tifr0 : t.tifr0 &&& 0xF8 = 0

/-- In a non-PWM mode no buffered compare value is left behind (R453). -/
def CompareLive (t : Timer0) : Prop :=
  t.waveMode.isNonPwm = true → t.ocr0a = t.ocr0aBuf ∧ t.ocr0b = t.ocr0bBuf

/-- Timer0's part of `UnitInv`. -/
structure Legal (t : Timer0) : Prop where
  reserved : t.ReservedClear
  modelled : t.refusal = none
  live : t.CompareLive

section
variable {t u : Timer0}

/-- The count, the output latches and the block play no part. -/
theorem Legal.of_eq (h : t.Legal) (hA : u.tccr0a = t.tccr0a) (hB : u.tccr0b = t.tccr0b) (hmask : u.timsk0 = t.timsk0)
    (hflags : u.tifr0 &&& 0xF8 = 0) (hlive : u.CompareLive) : u.Legal where
  reserved :=
    { tccr0a := hA ▸ h.reserved.tccr0a
      tccr0b := hB ▸ h.reserved.tccr0b
      timsk0 := hmask ▸ h.reserved.timsk0
      tifr0 := hflags }
  modelled := by
    have hm := h.modelled
    unfold refusal cs waveMode wgm com at hm ⊢
    rwa [hA, hB]
  live := hlive

theorem Legal.setLatch (h : t.Legal) (v : Bool) (x : Channel) : (t.setLatch v x).Legal := by
  cases x <;> exact h.of_eq rfl rfl rfl h.reserved.tifr0 h.live

theorem Legal.ite (ht : t.Legal) (hu : u.Legal) (p : Prop) [Decidable p] : (if p then t else u).Legal := by
  split
  · exact ht
  · exact hu

theorem Legal.outputMatch (h : t.Legal) (x : Channel) : (t.outputMatch x).Legal := by
  unfold Timer0.outputMatch
  split
  case h_1 => exact h
  case h_3 => exact (h.setLatch _ x).ite h _
  all_goals exact h.setLatch _ x

theorem Legal.outputBottom (h : t.Legal) (x : Channel) : (t.outputBottom x).Legal := by
  unfold Timer0.outputBottom
  split
  · exact h.setLatch true x
  · exact h.setLatch false x
  · exact h

theorem Legal.setFlag (h : t.Legal) {bit : Nat} (hbit : 1#8 <<< bit &&& 0xF8 = 0) : (t.setFlag bit).Legal :=
  h.of_eq rfl rfl rfl (setBit_and_eq_zero hbit h.reserved.tifr0 true) h.live

theorem Legal.compareMatch (h : t.Legal) {bit : Nat} (hbit : 1#8 <<< bit &&& 0xF8 = 0) (x : Channel) :
    (t.compareMatch bit x).Legal := (h.setFlag hbit).outputMatch x

theorem Legal.setCount (h : t.Legal) (v : Byte) (b : Bool) : Legal { t with tcnt0 := v, block := b } :=
  h.of_eq rfl rfl rfl h.reserved.tifr0 h.live

theorem Legal.bottom (h : t.Legal) : t.bottom.Legal :=
  have houtputs := (h.outputBottom .a).outputBottom .b
  houtputs.of_eq rfl rfl rfl houtputs.reserved.tifr0 fun _ => ⟨rfl, rfl⟩

theorem Legal.count (h : t.Legal) (old top : Byte) (mA : Bool) : (t.count old top mA).Legal := by
  have hflag : (t.setFlag tovBit).Legal := h.setFlag (by decide)
  unfold Timer0.count
  cases t.waveMode with
  | normal | ctc => exact (hflag.ite h _).setCount _ _
  | fastPwmFF | fastPwmOcra => exact ((hflag.ite h _).bottom.setCount _ _).ite (h.setCount _ _) _
  | phasePwmFF | reserved4 | phasePwmOcra | reserved6 => exact h

theorem Legal.tick (h : t.Legal) : t.tick.Legal := by
  unfold Timer0.tick
  refine Legal.ite (Legal.count ?_ _ _ _) h _
  have h1 : Legal { t with block := false } := h.setCount _ _
  have h2 := (h1.compareMatch (bit := ocfABit) (by decide) .a).ite h1 (t.isMatch t.ocr0a = true)
  exact (h2.compareMatch (by decide) .b).ite h2 _

theorem Legal.advance (h : t.Legal) (c : Nat) : (t.advance c).Legal :=
  h.tick.ite h _

/-- A configuration that is not refused is modelled, and in a non-PWM mode it loads the buffers (R453, R469). -/
theorem configured_legal (h : t.ReservedClear) (hu : t.configured = .ok u) : u.Legal := by
  unfold configured at hu
  cases hrefusal : t.refusal with
  | some f => rw [hrefusal] at hu; cases hu
  | none =>
    rw [hrefusal] at hu
    cases hu
    split
    · exact ⟨⟨h.tccr0a, h.tccr0b, h.timsk0, h.tifr0⟩, hrefusal, fun _ => ⟨rfl, rfl⟩⟩
    · exact ⟨h, hrefusal, fun hmode => absurd hmode (by assumption)⟩

theorem writeTccr0a_legal {v mask : Byte} (h : t.Legal) (hu : t.writeTccr0a v mask = .ok u) : u.Legal :=
  configured_legal (t := { t with tccr0a := storeBits 0xF3 t.tccr0a v mask })
    { h.reserved with tccr0a := storeBits_and_eq_zero (by decide) h.reserved.tccr0a v mask } hu

theorem Legal.strobe (h : t.Legal) (v mask : Byte) : (t.strobe v mask).Legal := by
  unfold Timer0.strobe
  have hA := (h.outputMatch .a).ite h (bitOf (v &&& mask) 7 = true)
  exact ((hA.outputMatch .b).ite hA _).ite h _

theorem writeTccr0b_legal {v mask : Byte} (h : t.Legal) (hu : t.writeTccr0b v mask = .ok u) : u.Legal := by
  unfold writeTccr0b at hu
  cases hc : configured { t with tccr0b := storeBits 0x0F t.tccr0b v mask } with
  | error f => rw [hc] at hu; cases hu
  | ok w =>
    rw [hc] at hu
    cases hu
    have hreserved : ReservedClear { t with tccr0b := storeBits 0x0F t.tccr0b v mask } :=
      { h.reserved with tccr0b := storeBits_and_eq_zero (by decide) h.reserved.tccr0b v mask }
    exact (configured_legal hreserved hc).strobe v mask

/-- A compare value written in a non-PWM mode is live at once (R453). -/
theorem Legal.writeOcr0a (h : t.Legal) (v mask free : Byte) : (t.writeOcr0a v mask free).Legal :=
  h.of_eq rfl rfl rfl h.reserved.tifr0 fun hmode => ⟨if_pos hmode, (h.live hmode).2⟩

theorem Legal.writeOcr0b (h : t.Legal) (v mask free : Byte) : (t.writeOcr0b v mask free).Legal :=
  h.of_eq rfl rfl rfl h.reserved.tifr0 fun hmode => ⟨(h.live hmode).1, if_pos hmode⟩

theorem Legal.writeTimsk0 (h : t.Legal) (v mask : Byte) : (t.writeTimsk0 v mask).Legal where
  reserved := { h.reserved with timsk0 := storeBits_and_eq_zero (by decide) h.reserved.timsk0 v mask }
  modelled := h.modelled
  live := h.live

theorem Legal.writeTifr0 (h : t.Legal) (v mask : Byte) : (t.writeTifr0 v mask).Legal :=
  h.of_eq rfl rfl rfl (and_and_eq_zero h.reserved.tifr0 _) h.live

theorem Legal.clearFlag (h : t.Legal) {bit : Nat} (hbit : 1#8 <<< bit &&& 0xF8 = 0) :
    Legal { t with tifr0 := setBit t.tifr0 bit false } :=
  h.of_eq rfl rfl rfl (setBit_and_eq_zero hbit h.reserved.tifr0 false) h.live

end

end Timer0

/-! ### A receiver (R488) -/

/-- A receiver's sample index and wait stay in range when a bit period is two cycles at least. -/
theorem rxStep_inRange {d : Nat} (hd : 2 ≤ d) (prev s : Bool) {rx : RxState} (h : rxInRange rx = true) :
    rxInRange (rxStep d prev s rx).1 = true := by
  cases rx with
  | idle =>
    rw [rxStep]
    split
    · have : 1 ≤ d / 2 := by omega
      simp [rxInRange, this]
    · rfl
  | frame j wait acc =>
    simp only [rxInRange, Bool.and_eq_true, decide_eq_true_eq] at h
    rw [rxStep]
    split_ifs <;> simp [rxInRange] <;> omega

/-! ### USART0 (R49 to R51, R56, R481) -/

namespace Usart0

/-- USART0's part of `UnitInv`. -/
structure Legal (u : Usart0) : Prop where
  ucsr0b : u.ucsr0b &&& 0x02 = 0
  ubrr0h : u.ubrr0h &&& 0xF0 = 0
  /-- An enabled USART0 is in asynchronous 8N1 (R481). -/
  modelled : (u.rxen || u.txen) = true → u.is8N1 = true
  txRange : Device.txInRange u.tx = true
  rxRange : rxInRange u.rx = true

section
variable {u w : Usart0}

theorem eight_le_bitPeriod (u : Usart0) : 8 ≤ u.bitPeriod := by
  unfold bitPeriod
  split <;> omega

/-- The flags, the buffer and the previous sample play no part. -/
theorem Legal.of_eq (h : u.Legal) (hB : w.ucsr0b = u.ucsr0b) (hC : w.ucsr0c = u.ucsr0c) (hmpcm : w.mpcm = u.mpcm)
    (hH : w.ubrr0h &&& 0xF0 = 0) (htx : Device.txInRange w.tx = true) (hrx : rxInRange w.rx = true) : w.Legal where
  ucsr0b := hB ▸ h.ucsr0b
  ubrr0h := hH
  modelled := by
    have hm := h.modelled
    unfold rxen txen is8N1 ucsz02 at hm ⊢
    rwa [hB, hC, hmpcm]
  txRange := htx
  rxRange := hrx

/-- A configuration that is not refused is modelled (R481). -/
theorem configured_eq (h : u.configured = .ok w) : w = u ∧ ((u.rxen || u.txen) = true → u.is8N1 = true) := by
  unfold configured at h
  split at h
  · cases h
  · cases h
    exact ⟨rfl, fun hen => by simp_all⟩

theorem writeUcsr0a_legal {v mask : Byte} (h : u.Legal) (hw : u.writeUcsr0a v mask = .ok w) : w.Legal := by
  obtain ⟨rfl, hmodelled⟩ := configured_eq hw
  exact ⟨h.ucsr0b, h.ubrr0h, hmodelled, h.txRange, h.rxRange⟩

theorem writeUcsr0c_legal {v mask : Byte} (h : u.Legal) (hw : u.writeUcsr0c v mask = .ok w) : w.Legal := by
  obtain ⟨rfl, hmodelled⟩ := configured_eq hw
  exact ⟨h.ucsr0b, h.ubrr0h, hmodelled, h.txRange, h.rxRange⟩

theorem Legal.flushRx (h : u.Legal) : u.flushRx.Legal := h.of_eq rfl rfl rfl h.ubrr0h h.txRange rfl

theorem writeUcsr0b_legal {v mask : Byte} (h : u.Legal) (hw : u.writeUcsr0b v mask = .ok w) : w.Legal := by
  unfold writeUcsr0b at hw
  cases hc : configured { u with ucsr0b := storeBits 0xFD u.ucsr0b v mask } with
  | error f => rw [hc] at hw; cases hw
  | ok x =>
    rw [hc] at hw
    obtain ⟨rfl, hmodelled⟩ := configured_eq hc
    have hx : Legal { u with ucsr0b := storeBits 0xFD u.ucsr0b v mask } :=
      ⟨storeBits_and_eq_zero (by decide) h.ucsr0b v mask, h.ubrr0h, hmodelled, h.txRange, h.rxRange⟩
    cases hw
    split
    · exact hx.flushRx
    · exact hx

theorem Legal.writeUbrr0l (h : u.Legal) (v mask : Byte) : (u.writeUbrr0l v mask).Legal :=
  h.of_eq rfl rfl rfl h.ubrr0h h.txRange h.rxRange

theorem Legal.writeUbrr0h (h : u.Legal) (v mask : Byte) : (u.writeUbrr0h v mask).Legal :=
  h.of_eq rfl rfl rfl (storeBits_and_eq_zero (by decide) h.ubrr0h v mask) h.txRange h.rxRange

theorem txInRange_busy {bit left : Nat} {shift : Byte} (hbit : bit ≤ 9) (hleft : 1 ≤ left) :
    Device.txInRange (.busy bit left shift) = true := by
  simp [Device.txInRange, hbit, hleft]

theorem Legal.writeUdr0 (h : u.Legal) (v : Byte) : (u.writeUdr0 v).Legal := by
  have := u.eight_le_bitPeriod
  unfold Usart0.writeUdr0
  split
  · exact h.of_eq rfl rfl rfl h.ubrr0h (txInRange_busy (by omega) (by omega)) h.rxRange
  · exact h

theorem Legal.afterUdr0Read (h : u.Legal) : u.afterUdr0Read.Legal :=
  h.of_eq rfl rfl rfl h.ubrr0h h.txRange h.rxRange

theorem Legal.txTick (h : u.Legal) : u.txTick.Legal := by
  have := u.eight_le_bitPeriod
  have hrange := h.txRange
  unfold Usart0.txTick
  cases htx : u.tx with
  | idle => exact h
  | busy bit left shift =>
    simp only [htx, Device.txInRange, Bool.and_eq_true, decide_eq_true_eq] at hrange
    dsimp only
    split_ifs with hleft hbit
    · exact h.of_eq rfl rfl rfl h.ubrr0h (txInRange_busy (by omega) (by omega)) h.rxRange
    · exact h.of_eq rfl rfl rfl h.ubrr0h rfl h.rxRange
    · exact h.of_eq rfl rfl rfl h.ubrr0h (txInRange_busy (by omega) (by omega)) h.rxRange

/-- A report touches the flags and the buffer alone (R493, R494). -/
theorem receive_eq (u : Usart0) (report : Option RxReport) :
    u.receive report = { u with
      dor := (u.receive report).dor
      fe := (u.receive report).fe
      rxBuf := (u.receive report).rxBuf
      rxc := (u.receive report).rxc } := by
  unfold receive deliver
  split
  · rfl
  · split <;> rfl
  · rfl

theorem Legal.rxTick (h : u.Legal) (s : Bool) : (u.rxTick s).Legal := by
  unfold Usart0.rxTick
  split
  · dsimp only
    rw [receive_eq]
    exact h.of_eq rfl rfl rfl h.ubrr0h h.txRange
      (rxStep_inRange (Nat.le_trans (by decide) u.eight_le_bitPeriod) _ _ h.rxRange)
  · exact h

end

end Usart0

/-! ### A Device -/

/-- The reserved bits of a port's registers, those of pins the port does not have, are 0 (R52, R510). -/
structure Port.Legal (p : PortName) (r : Port) : Prop where
  ddr : r.ddr &&& ~~~p.pins = 0
  port : r.port &&& ~~~p.pins = 0

/-- Every register of the I/O window whose bits are those of the port's pins keeps the others 0 (R92). -/
theorem storePins_and_eq_zero (p : PortName) {old : Byte} (h : old &&& ~~~p.pins = 0) (v mask : Byte) :
    storeBits p.pins old v mask &&& ~~~p.pins = 0 :=
  storeBits_and_eq_zero (BitVec.and_not_self _) h v mask

/-- A toggle reaches the pins the port has (R53, R515). -/
theorem togglePins_and_eq_zero (p : PortName) {old : Byte} (h : old &&& ~~~p.pins = 0) (v mask : Byte) :
    (old ^^^ (v &&& (mask &&& p.pins))) &&& ~~~p.pins = 0 := by
  refine xor_and_eq_zero h ?_
  rw [← BitVec.and_assoc, BitVec.and_comm _ p.pins]
  exact and_and_eq_zero (BitVec.and_not_self _) _

namespace Device

/-- The peripherals' part of `UnitInv`. -/
structure Legal (d : Device) : Prop where
  ctl : d.ctl.Legal
  timer : d.timer.Legal
  usart : d.usart.Legal
  ports : ∀ p, (d.portRegs p).Legal p

section
variable {d e : Device}

theorem Legal.of_eq (h : d.Legal) (hctl : e.ctl = d.ctl) (htimer : e.timer = d.timer) (husart : e.usart = d.usart)
    (hports : e.ports = d.ports) : e.Legal where
  ctl := hctl ▸ h.ctl
  timer := htimer ▸ h.timer
  usart := husart ▸ h.usart
  ports p := by
    unfold portRegs
    rw [hports]
    exact h.ports p

theorem Legal.setCtl (h : d.Legal) {x : Control} (hx : x.Legal) : (d.setCtl x).Legal := { h with ctl := hx }

theorem Legal.setTimer (h : d.Legal) {x : Timer0} (hx : x.Legal) : (d.setTimer x).Legal := { h with timer := hx }

theorem Legal.setUsart (h : d.Legal) {x : Usart0} (hx : x.Legal) : (d.setUsart x).Legal := { h with usart := hx }

theorem Legal.setPortRegs (h : d.Legal) {p : PortName} {r : Port} (hr : r.Legal p) : (d.setPortRegs p r).Legal :=
  { h with
    ports := fun q => by
      rw [portRegs_setPortRegs]
      split
      · next hq => exact hq ▸ hr
      · exact h.ports q }

theorem Legal.ocrDraw (h : d.Legal) (v : Byte) : (d.ocrDraw v).2.Legal := h.of_eq rfl rfl rfl rfl

theorem Legal.togglePort (h : d.Legal) (p : PortName) (v mask : Byte) : (d.togglePort p v mask).Legal :=
  h.setPortRegs ⟨(h.ports p).ddr, togglePins_and_eq_zero p (h.ports p).port v mask⟩

theorem Legal.writeDdr (h : d.Legal) (p : PortName) (v mask : Byte) : (d.writeDdr p v mask).Legal :=
  h.setPortRegs ⟨storePins_and_eq_zero p (h.ports p).ddr v mask, (h.ports p).port⟩

theorem Legal.writePort (h : d.Legal) (p : PortName) (v mask : Byte) : (d.writePort p v mask).Legal :=
  h.setPortRegs ⟨(h.ports p).ddr, storePins_and_eq_zero p (h.ports p).port v mask⟩

theorem writeMcucr_legal {v mask : Byte} (h : d.Legal) (he : d.writeMcucr v mask = .ok e) : e.Legal := by
  unfold writeMcucr at he
  split at he
  · cases he
  · cases he
    exact h.setCtl { h.ctl with mcucr := storeBits_and_eq_zero (by decide) h.ctl.mcucr v mask }

/-- A mapped effect succeeds on what the effect answered. -/
theorem exists_of_map_ok {α β : Type} {x : Except FaultDetail α} {f : α → β} {y : β} (h : x.map f = .ok y) :
    ∃ a, x = .ok a ∧ f a = y := by
  cases x with
  | error _ => cases h
  | ok a => cases h; exact ⟨a, rfl, rfl⟩

theorem ioStore_legal {v mask : Byte} {r : IoReg} (h : d.Legal) (he : d.ioStore v mask r = .ok e) : e.Legal := by
  cases r with
  | pin p => cases he; exact h.togglePort p v mask
  | ddr p => cases he; exact h.writeDdr p v mask
  | port p => cases he; exact h.writePort p v mask
  | mcucr => exact writeMcucr_legal h he
  | gpior0 | gpior1 | gpior2 => cases he; exact h.setCtl { h.ctl with }
  | smcr => cases he; exact h.setCtl { h.ctl with smcr := storeBits_and_eq_zero (by decide) h.ctl.smcr v mask }
  | rampz => cases he; exact h.setCtl { h.ctl with rampz := storeBits_and_eq_zero (by decide) h.ctl.rampz v mask }
  | eind => cases he; exact h.setCtl { h.ctl with eind := storeBits_and_eq_zero (by decide) h.ctl.eind v mask }
  | spl | sph | sreg => cases he; exact h.of_eq rfl rfl rfl rfl
  | tifr0 => cases he; exact h.setTimer (h.timer.writeTifr0 v mask)
  | tcnt0 => cases he; exact h.setTimer (h.timer.setCount _ true)
  | timsk0 => cases he; exact h.setTimer (h.timer.writeTimsk0 v mask)
  | ocr0a => cases he; exact (h.ocrDraw v).setTimer (h.timer.writeOcr0a v mask _)
  | ocr0b => cases he; exact (h.ocrDraw v).setTimer (h.timer.writeOcr0b v mask _)
  | tccr0a =>
    obtain ⟨t, ht, rfl⟩ := exists_of_map_ok he
    exact h.setTimer (Timer0.writeTccr0a_legal h.timer ht)
  | tccr0b =>
    obtain ⟨t, ht, rfl⟩ := exists_of_map_ok he
    exact h.setTimer (Timer0.writeTccr0b_legal h.timer ht)
  | ucsr0a =>
    obtain ⟨u, hu, rfl⟩ := exists_of_map_ok he
    exact h.setUsart (Usart0.writeUcsr0a_legal h.usart hu)
  | ucsr0b =>
    obtain ⟨u, hu, rfl⟩ := exists_of_map_ok he
    exact h.setUsart (Usart0.writeUcsr0b_legal h.usart hu)
  | ucsr0c =>
    obtain ⟨u, hu, rfl⟩ := exists_of_map_ok he
    exact h.setUsart (Usart0.writeUcsr0c_legal h.usart hu)
  | ubrr0l => cases he; exact h.setUsart (h.usart.writeUbrr0l v mask)
  | ubrr0h => cases he; exact h.setUsart (h.usart.writeUbrr0h v mask)
  | udr0 => cases he; exact h.setUsart (h.usart.writeUdr0 v)

theorem Legal.afterIoRead (h : d.Legal) (r : IoReg) : (d.afterIoRead r).Legal := by
  by_cases hr : r = .udr0
  · subst hr
    exact h.setUsart h.usart.afterUdr0Read
  · obtain ⟨hframe, husart⟩ := d.afterIoRead_frame r
    rw [hframe, husart hr]
    exact h.of_eq rfl rfl rfl rfl

theorem DataEffect.legal {regs : List Reg} (h : DataEffect regs d e) (hd : d.Legal) : e.Legal := by
  induction h with
  | refl => exact hd
  | setReg _ _ _ ih | setSreg _ _ ih | setSp _ _ ih | setSramByte _ _ _ _ ih => exact ih.of_eq rfl rfl rfl rfl
  | setRampz _ x ih => exact ih.setCtl { ih.ctl with rampz := rampzMoved_and_eq_zero ih.ctl.rampz x }
  | afterIoRead _ r ih => exact ih.afterIoRead r
  | ioStore _ he ih => exact ioStore_legal ih he

theorem Executes.legal {c : Config} {regs : List Reg} (h : Executes c regs d e) (hd : d.Legal) : e.Legal := by
  obtain ⟨m, hdata, hends⟩ := h
  rw [hends.frame]
  exact (hdata.legal hd).of_eq rfl rfl rfl rfl

theorem Legal.acknowledge (h : d.Legal) (v : Vec) : (d.acknowledge v).Legal := by
  cases v with
  | timer0CompA | timer0CompB | timer0Ovf => exact h.setTimer (h.timer.clearFlag (by decide))
  | usart0Rx | usart0Udre => exact h.of_eq rfl rfl rfl rfl
  | usart0Tx => exact h.setUsart (h.usart.of_eq rfl rfl rfl h.usart.ubrr0h h.usart.txRange h.usart.rxRange)

theorem takeVector_legal {c : Config} {v : Vec} {wake : Nat} (h : d.takeVector c v wake = .ok e) (hd : d.Legal) :
    e.Legal := by
  obtain ⟨m, hpush, rfl⟩ := takeVector_frame h
  have hm : m.Legal := (DataEffect.pushBytes (regs := []) _ .refl hpush).legal hd
  exact (hm.acknowledge v).of_eq rfl rfl rfl rfl

theorem portRegs_syncPins (d : Device) (level : PortName → Fin 8 → Level) (p : PortName) :
    (d.syncPins level).portRegs p = (d.portRegs p).sync (level p) := by
  cases p <;> rfl

theorem Legal.syncPins (h : d.Legal) (level : PortName → Fin 8 → Level) : (d.syncPins level).Legal :=
  { h with
    ports := fun p => by
      rw [portRegs_syncPins]
      exact ⟨(h.ports p).ddr, (h.ports p).port⟩ }

theorem Legal.tick (h : d.Legal) (k : Nat) (level : PortName → Fin 8 → Level) : (d.tick k level).Legal := by
  unfold Device.tick
  split
  · exact h
  · have hunits : Legal { d with
        timer := d.timer.advance k
        usart := d.usart.txTick.rxTick (d.rxSample (level .e 0))
        draws := if d.usart.rxen && level .e 0 = Level.z then d.draws + 1 else d.draws } :=
      { h with timer := h.timer.advance k, usart := h.usart.txTick.rxTick _ }
    exact (hunits.syncPins level).of_eq rfl rfl rfl rfl

end

end Device

end Sys2Proof.Machine
end

section
/-! SUPPORT. `Device.UnitInv`, the peripherals' part and that of the interrupt latches, through a boundary and a tick;
and the terminals' receivers. -/

namespace Sys2Proof.Machine

namespace Device

section
variable {c : Config} {k : Nat} {d e : Device}

theorem UnitInv.legal (h : d.UnitInv) : d.Legal := by
  have hr := h.reserved
  simp only [reservedClear, Bool.and_eq_true, beq_iff_eq, and_assoc] at hr
  obtain ⟨hrampz, heind, hsmcr, hmcucr, htccr0a, htccr0b, htimsk0, htifr0, hucsr0b, hubrr0h, hddr, hport⟩ := hr
  refine ⟨⟨hrampz, heind, hsmcr, hmcucr⟩, ⟨⟨htccr0a, htccr0b, htimsk0, htifr0⟩, h.timerModelled, h.compareLive⟩,
    ⟨hucsr0b, hubrr0h, h.usartModelled, h.txRange, h.rxRange⟩, fun p => ?_⟩
  cases p with
  | g => exact ⟨hddr, hport⟩
  | a | b | c | d | e | f | h | j | k | l => exact ⟨BitVec.and_zero, BitVec.and_zero⟩

theorem Legal.reservedClear (h : d.Legal) : d.reservedClear = true := by
  simp only [Device.reservedClear, Bool.and_eq_true, beq_iff_eq, and_assoc]
  exact ⟨h.ctl.rampz, h.ctl.eind, h.ctl.smcr, h.ctl.mcucr, h.timer.reserved.tccr0a, h.timer.reserved.tccr0b,
    h.timer.reserved.timsk0, h.timer.reserved.tifr0, h.usart.ucsr0b, h.usart.ubrr0h, (h.ports .g).ddr,
    (h.ports .g).port⟩

/-- The latches' part of `UnitInv`, but for the `fired` latches. -/
structure InhibitInv (d : Device) : Prop where
  hasI : d.inhibit = true → d.iFlag = true
  notAsleep : d.mode = .sleeping → d.inhibit = false

theorem UnitInv.inhibitInv (h : d.UnitInv) : d.InhibitInv := ⟨h.inhibitHasI, h.sleepNotInhibited⟩

theorem Legal.unitInv (h : d.Legal) (hfired25 : d.fired25 = true → d.usart.rxc = true)
    (hfired26 : d.fired26 = true → d.usart.udre = true) (hinhibit : d.InhibitInv) : d.UnitInv where
  reserved := h.reservedClear
  timerModelled := h.timer.modelled
  compareLive := h.timer.live
  usartModelled := h.usart.modelled
  txRange := h.usart.txRange
  rxRange := h.usart.rxRange
  firedHasFlag := ⟨hfired25, hfired26⟩
  inhibitHasI := hinhibit.hasI
  sleepNotInhibited := hinhibit.notAsleep

/-- The `fired` latches follow their flags (R413), whatever they were. -/
theorem Legal.refreshFired_unitInv (h : d.Legal) (hinhibit : d.InhibitInv) : d.refreshFired.UnitInv :=
  Legal.unitInv (h.of_eq rfl rfl rfl rfl) (fun hf => (Bool.and_eq_true_iff.mp hf).2)
    (fun hf => (Bool.and_eq_true_iff.mp hf).2) ⟨hinhibit.hasI, hinhibit.notAsleep⟩

theorem Legal.settle_unitInv (h : d.Legal) (hinhibit : d.InhibitInv) (hhalted : d.isHalted = false) :
    d.settle.UnitInv := by
  rw [settle_of_not_halted hhalted]
  exact h.refreshFired_unitInv hinhibit

/-- An instruction that leaves `inhibit` set has set SREG.I, and did not put the Device to sleep (R414). -/
theorem Executes.inhibitInv {regs : List Reg} (h : Executes c regs d e) (hmode : d.mode = .running) :
    e.InhibitInv := by
  have he := h.mode hmode
  obtain ⟨m, -, hends⟩ := h
  refine ⟨fun hi => ?_, fun hs => ?_⟩
  · rw [hends.frame]
    exact hends.inhibitHasI hi
  · rcases he with hr | ⟨-, hi⟩
    · rw [hr] at hs; cases hs
    · exact hi

/-- Vectoring keeps `inhibit`, which was clear (R414, R424), and wakes the Device. -/
theorem takeVector_inhibit {v : Vec} {wake : Nat} (h : d.takeVector c v wake = .ok e) :
    e.inhibit = d.inhibit ∧ e.mode = .running := by
  obtain ⟨m, hpush, rfl⟩ := takeVector_frame h
  have hm : m.inhibit = d.inhibit := by rw [(pushBytes_frame hpush).1]
  cases v <;> exact ⟨hm, rfl⟩

theorem takeVector_inhibitInv {v : Vec} {wake : Nat} (h : d.takeVector c v wake = .ok e) (hd : d.inhibit = false) :
    e.InhibitInv := by
  obtain ⟨hinhibit, -⟩ := takeVector_inhibit h
  refine ⟨fun hi => ?_, fun _ => hinhibit.trans hd⟩
  rw [hinhibit, hd] at hi
  cases hi

/-- A halted Device keeps everything but its mode (R400). -/
theorem UnitInv.halt (h : d.UnitInv) (f : FaultDetail) : (d.halt f).UnitInv :=
  Legal.unitInv (h.legal.of_eq rfl rfl rfl rfl) h.firedHasFlag.1 h.firedHasFlag.2 ⟨h.inhibitHasI, nofun⟩

theorem Acts.settle_unitInv (h : Acts c d e) (hd : d.UnitInv) : e.settle.UnitInv := by
  have hlegal := hd.legal
  cases h with
  | frozen hhalted =>
    rw [settle_of_halted hhalted]
    exact hd
  | halts _ f => exact hd.halt f
  | vectors hmode he =>
    have hinhibit : d.inhibit = false := hmode.elim And.right hd.sleepNotInhibited
    exact (takeVector_legal he hlegal).settle_unitInv (takeVector_inhibitInv he hinhibit)
      (isHalted_eq_false (.inl (takeVector_inhibit he).2))
  | idles hmode =>
    exact Legal.settle_unitInv (hlegal.of_eq rfl rfl rfl rfl) ⟨hd.inhibitHasI, hd.sleepNotInhibited⟩
      (isHalted_eq_false (.inr hmode))
  | executes hmode he =>
    exact (he.legal hlegal).settle_unitInv (he.inhibitInv hmode)
      (isHalted_eq_false ((he.mode hmode).imp_right And.left))

theorem UnitInv.tick (h : d.UnitInv) (k : Nat) (level : PortName → Fin 8 → Level) : (d.tick k level).UnitInv := by
  have hlegal := h.legal.tick k level
  cases hhalted : d.isHalted with
  | true =>
    rw [tick_of_halted hhalted]
    exact h
  | false =>
    rw [Device.tick, if_neg (by simp [hhalted])] at hlegal ⊢
    exact hlegal.unitInv (fun hf => (Bool.and_eq_true_iff.mp hf).2) (fun hf => (Bool.and_eq_true_iff.mp hf).2)
      ⟨h.inhibitHasI, h.sleepNotInhibited⟩

theorem Passes.unitInv (h : Passes c k d e) (hd : d.UnitInv) : e.UnitInv := by
  rcases h with ⟨-, rfl⟩ | ⟨-, a, hacts, rfl⟩
  · exact hd
  · exact hacts.settle_unitInv hd

theorem Steps.unitInv (h : Steps c k d e) (hd : d.UnitInv) : e.UnitInv := by
  obtain ⟨a, level, hpasses, rfl⟩ := h
  exact (hpasses.unitInv hd).tick k level

end

end Device

/-- Settles O48: a step is one cycle of every Device, whose parts each keep its peripherals legal and after which the
`fired` latches follow their flags, and one tick of every terminal's receiver. -/
theorem stepKeepsUnits : Obligations.StepKeepsUnits := by
  unfold Obligations.StepKeepsUnits
  intro s t hs h
  obtain ⟨-, -, hdev, hsiblings, hterminals⟩ := State.step_steps h
  refine ⟨hdev.unitInv hs.dev, fun e he => ?_, fun w hw => ?_⟩
  · obtain ⟨d, hd, hsteps⟩ := hsiblings e he
    exact hsteps.unitInv (hs.siblings d hd)
  · obtain ⟨v, hv, line, rfl⟩ := hterminals w hw
    obtain ⟨hcycles, hrx⟩ := hs.terminals v hv
    exact ⟨hcycles, rxStep_inRange hcycles _ _ hrx⟩

end Sys2Proof.Machine
end

section
/-! SUPPORT. Program memory through a whole step (R83, R86), and the one-byte stack operations (R96, R97). -/

namespace Sys2Proof.Machine

/-! ### Program memory -/

/-- A part of a Device that a tick keeps is kept in every Device that ticks. -/
theorem State.map_tickDevices {β : Type} {f : Device → β} (hf : ∀ d k level, f (Device.tick d k level) = f d) (k : Nat)
    (level : Endpoint → Level) (i : Nat) (ds : List Device) : (tickDevices k level i ds).map f = ds.map f := by
  induction ds generalizing i with
  | nil => rfl
  | cons d ds ih => rw [tickDevices, List.map_cons, List.map_cons, hf, ih]

theorem State.map_prog_finishCycle_siblings (s : State) :
    s.finishCycle.siblings.map (·.prog) = s.siblings.map (·.prog) := by
  rw [finishCycle_siblings, map_tickDevices fun d k level => (d.tick_sameBuild k level).prog, List.map_map]
  exact List.map_congr_left fun d _ => (s.siblingBoundary_sameBuild d).prog

/-- Settles O40: the boundary of each Device keeps what the build fixed, its program memory with it, and so does the
tick after it. -/
theorem programConstant : Obligations.ProgramConstant := by
  unfold Obligations.ProgramConstant
  intro s t h
  obtain ⟨d, -, hbuild, rfl⟩ := State.step_cases h
  refine ⟨?_, State.map_prog_finishCycle_siblings _⟩
  rw [State.finishCycle_dev]
  exact (Device.tick_sameBuild _ _ _).prog.trans hbuild.prog

/-! ### PUSH and POP -/

open Device

theorem Device.inSram_iff (a : Word) : inSram a = true ↔ 0x200 ≤ a.toNat ∧ a.toNat ≤ 0x21FF := by
  rw [inSram, Bool.and_eq_true, decide_eq_true_eq, decide_eq_true_eq]

theorem Device.inSram_eq_false_iff (a : Word) : inSram a = false ↔ a.toNat < 0x200 ∨ 0x21FF < a.toNat := by
  rw [← Bool.not_eq_true, inSram_iff]
  omega

theorem completes_of_retire_ok {i : Instr} {s : State} {d : Device} (h : exec i s = s.retire (.ok d)) :
    Completes i s d := h

theorem halts_of_retire_error {i : Instr} {s : State} {e : FaultDetail} (h : exec i s = s.retire (.error e)) :
    Halts i s e := h

theorem exec_push (r : Reg) (s : State) :
    exec (.push r) s = s.retire ((s.dev.push8 (s.dev.reg r)).map fun d => d.advance s.cfg 1 2) := rfl

theorem exec_pop (r : Reg) (s : State) :
    exec (.pop r) s = s.retire (s.dev.pop8.map fun (v, d) => (d.setReg r v).advance s.cfg 1 2) := rfl

theorem push_completes {s : State} (r : Reg) (h : inSram s.dev.sp = true) :
    Completes (.push r) s
      (((s.dev.setSramByte s.dev.sp.toNat (s.dev.reg r)).setSp (s.dev.sp - 1)).past s.cfg 1 2) := by
  apply completes_of_retire_ok
  rw [exec_push, push8, if_pos h, ← advance_one]
  rfl

theorem push_halts {s : State} (r : Reg) (h : inSram s.dev.sp = false) :
    Halts (.push r) s (.stack .push s.dev.sp) := by
  apply halts_of_retire_error
  rw [exec_push, push8, if_neg (Bool.eq_false_iff.mp h)]
  rfl

theorem pop_completes {s : State} (r : Reg) (h : inSram (s.dev.sp + 1) = true) :
    Completes (.pop r) s
      (((s.dev.setSp (s.dev.sp + 1)).setReg r (s.dev.sramByte (s.dev.sp + 1).toNat)).past s.cfg 1 2) := by
  apply completes_of_retire_ok
  rw [exec_pop, pop8, if_pos h, ← advance_one]
  rfl

theorem pop_halts {s : State} (r : Reg) (h : inSram (s.dev.sp + 1) = false) :
    Halts (.pop r) s (.stack .pop (s.dev.sp + 1)) := by
  apply halts_of_retire_error
  rw [exec_pop, pop8, if_neg (Bool.eq_false_iff.mp h)]
  rfl

/-- Settles O24: one check of the address each, SP as a number moving by one. -/
theorem pushPop : Obligations.PushPop := by
  unfold Obligations.PushPop
  intro s r sp up
  have hdown (h : 0x200 ≤ sp) : s.dev.sp - 1 = BitVec.ofNat 16 (sp - 1) := by
    unfold sp at h ⊢
    bv_omega
  have hupNat : (s.dev.sp + 1).toNat = up := BitVec.toNat_add _ _
  have hup : s.dev.sp + 1 = BitVec.ofNat 16 up := by rw [← hupNat, BitVec.ofNat_toNat, BitVec.setWidth_eq]
  refine ⟨fun h => ?_, fun h => push_halts r ((inSram_eq_false_iff _).mpr h), fun h => ?_, fun h => ?_⟩
  · rw [← hdown h.1]
    exact push_completes r ((inSram_iff _).mpr h)
  · rw [← hup, ← hupNat]
    exact pop_completes r ((inSram_iff _).mpr (hupNat ▸ h))
  · rw [← hup]
    exact pop_halts r ((inSram_eq_false_iff _).mpr (hupNat ▸ h))

end Sys2Proof.Machine
end

section
/-! SUPPORT. What a write to a register of the I/O window leaves in every register (R92): first the units against each
other, then the registers of one unit. -/

namespace Sys2Proof.Machine

/-! ### Bytes and words -/

/-- Storing a whole byte into a register whose other bits were 0 (R92). -/
theorem storeBits_whole {bits old : Byte} (h : old &&& ~~~bits = 0) (v : Byte) :
    storeBits bits old v 0xFF = v &&& bits := by
  have hmask : (0xFF : Byte) &&& bits = bits := BitVec.allOnes_and
  rw [storeBits, hmask, h]
  exact BitVec.zero_or

/-- Storing a whole byte into a register of eight bits. -/
theorem storeBits_all (old v : Byte) : storeBits 0xFF old v 0xFF = v := by
  rw [storeBits_whole BitVec.and_zero]
  exact BitVec.and_allOnes

/-- A word is its two bytes. -/
theorem word_ext {a b : Word} (hlow : a.extractLsb' 0 8 = b.extractLsb' 0 8)
    (hhigh : a.extractLsb' 8 8 = b.extractLsb' 8 8) : a = b := by
  rw [← BitVec.extractLsb'_append_extractLsb' (w := 8) (len := 8) (x := a), hlow, hhigh]
  exact BitVec.extractLsb'_append_extractLsb'

/-! ### The effect of a write, unit by unit -/

namespace Timer0

/-- A configuration that is not refused loads the buffers in a non-PWM mode (R453, R469). -/
theorem configured_eq {t u : Timer0} (h : t.configured = .ok u) :
    u = if t.waveMode.isNonPwm = true then loaded t else t := by
  unfold configured at h
  split at h
  · cases h
  · cases h; rfl

theorem com_a_toNat (t : Timer0) : (t.com .a).toNat = t.tccr0a.toNat / 64 := by
  have := t.tccr0a.isLt
  rw [com, BitVec.extractLsb'_toNat, Nat.shiftRight_eq_div_pow]
  omega

theorem com_b_toNat (t : Timer0) : (t.com .b).toNat = t.tccr0a.toNat / 16 % 4 := by
  rw [com, BitVec.extractLsb'_toNat, Nat.shiftRight_eq_div_pow]

/-- In a non-PWM mode an output match sets the channel's latch by its COM bits alone (R470). -/
theorem outputMatch_of_nonPwm {t : Timer0} (h : t.waveMode.isNonPwm = true) (x : Channel) :
    t.outputMatch x = t.setLatch (strobed (t.com x).toNat (t.latch x)) x := by
  have hcom : (t.com x).toNat < 4 := (t.com x).isLt
  unfold outputMatch
  rw [h]
  interval_cases (t.com x).toNat
  · cases x <;> rfl
  all_goals rfl

/-- The strobes of both channels in a non-PWM mode (R468): the first changes neither the mode nor the other's COM. -/
theorem strobe_of_nonPwm {t : Timer0} (h : t.waveMode.isNonPwm = true) (v mask : Byte) :
    t.strobe v mask = { t with
      oc0a := if bitOf (v &&& mask) 7 = true then strobed (t.tccr0a.toNat / 64) t.oc0a else t.oc0a
      oc0b := if bitOf (v &&& mask) 6 = true then strobed (t.tccr0a.toNat / 16 % 4) t.oc0b else t.oc0b } := by
  have hA : t.outputMatch .a = { t with oc0a := strobed (t.tccr0a.toNat / 64) t.oc0a } := by
    rw [outputMatch_of_nonPwm h, com_a_toNat]
    rfl
  have hB {u : Timer0} (hu : u.waveMode.isNonPwm = true) :
      u.outputMatch .b = { u with oc0b := strobed (u.tccr0a.toNat / 16 % 4) u.oc0b } := by
    rw [outputMatch_of_nonPwm hu, com_b_toNat]
    rfl
  unfold strobe
  rw [if_pos h]
  split_ifs
  · rw [hA]
    exact hB h
  · exact hA
  · exact hB h
  · rfl

/-- A write of TCCR0A that is not refused (R453, R469). -/
theorem writeTccr0a_eq {t u : Timer0} {v mask : Byte} (h : t.writeTccr0a v mask = .ok u) :
    ∃ w, w = { t with tccr0a := storeBits 0xF3 t.tccr0a v mask } ∧
      u = if w.waveMode.isNonPwm = true then loaded w else w :=
  ⟨_, rfl, configured_eq h⟩

/-- The strobes after a configuration that is not refused. -/
theorem strobe_configured {w u : Timer0} (h : w.configured = .ok u) (v mask : Byte) :
    u.strobe v mask = if w.waveMode.isNonPwm = true then { loaded w with
        oc0a := if bitOf (v &&& mask) 7 = true then strobed (w.tccr0a.toNat / 64) w.oc0a else w.oc0a
        oc0b := if bitOf (v &&& mask) 6 = true then strobed (w.tccr0a.toNat / 16 % 4) w.oc0b else w.oc0b }
      else w := by
  rw [configured_eq h]
  split
  · next hmode => exact strobe_of_nonPwm (t := loaded w) hmode v mask
  · next hmode => exact if_neg hmode

/-- A write of TCCR0B that is not refused (R453, R468, R469). -/
theorem writeTccr0b_eq {t u : Timer0} {v mask : Byte} (h : t.writeTccr0b v mask = .ok u) :
    ∃ w, w = { t with tccr0b := storeBits 0x0F t.tccr0b v mask } ∧
      u = if w.waveMode.isNonPwm = true then { loaded w with
          oc0a := if bitOf (v &&& mask) 7 = true then strobed (w.tccr0a.toNat / 64) w.oc0a else w.oc0a
          oc0b := if bitOf (v &&& mask) 6 = true then strobed (w.tccr0a.toNat / 16 % 4) w.oc0b else w.oc0b }
        else w := by
  unfold writeTccr0b at h
  split at h
  · next w hw => cases h; exact ⟨_, rfl, strobe_configured hw v mask⟩
  · cases h

/-- A write of TCCR0A stores it, and changes the live compare values at most. -/
theorem writeTccr0a_frame {t u : Timer0} {v mask : Byte} (h : t.writeTccr0a v mask = .ok u) :
    u = { t with tccr0a := storeBits 0xF3 t.tccr0a v mask, ocr0a := u.ocr0a, ocr0b := u.ocr0b } := by
  obtain ⟨w, rfl, rfl⟩ := writeTccr0a_eq h
  split <;> rfl

/-- A write of TCCR0B stores it, and changes the live compare values and the output latches at most. -/
theorem writeTccr0b_frame {t u : Timer0} {v mask : Byte} (h : t.writeTccr0b v mask = .ok u) :
    u = { t with
      tccr0b := storeBits 0x0F t.tccr0b v mask
      ocr0a := u.ocr0a
      ocr0b := u.ocr0b
      oc0a := u.oc0a
      oc0b := u.oc0b } := by
  obtain ⟨w, rfl, rfl⟩ := writeTccr0b_eq h
  split <;> rfl

end Timer0

namespace Device

/-- `d` and `e` agree on what the registers of the unit `u` hold. -/
def SameUnit (d e : Device) : IoUnit → Prop
  | .core => e.ctl = d.ctl ∧ e.sp = d.sp ∧ e.sreg = d.sreg
  | .timer => e.timer = d.timer
  | .usart => e.usart = d.usart
  | .port p => e.portRegs p = d.portRegs p

/-- A write leaves every unit but the register's own (R92). -/
theorem ioStore_sameUnit {d e : Device} {v mask : Byte} {r : IoReg} (h : d.ioStore v mask r = .ok e) {u : IoUnit}
    (hu : u ≠ r.unit) : SameUnit d e u := by
  obtain ⟨htimer, husart, hport, hcore⟩ := ioStore_frame h
  cases hr : r.unit with
  | timer =>
    rw [htimer hr]
    cases u with
    | timer => exact absurd hr.symm hu
    | core => exact ⟨rfl, rfl, rfl⟩
    | usart | port => rfl
  | usart =>
    rw [husart hr]
    cases u with
    | usart => exact absurd hr.symm hu
    | core => exact ⟨rfl, rfl, rfl⟩
    | timer | port => rfl
  | core =>
    rw [hcore hr]
    cases u with
    | core => exact absurd hr.symm hu
    | timer | usart | port => rfl
  | port p =>
    obtain ⟨q, rfl⟩ := hport p hr
    cases u with
    | port p' =>
      rw [SameUnit, portRegs_setPortRegs, if_neg]
      rintro rfl
      exact hu hr.symm
    | core => exact ⟨rfl, rfl, rfl⟩
    | timer | usart => rfl

/-- A register but PINx, whose read draws, reads what its unit holds (R91). -/
theorem ioValue_of_sameUnit {d e : Device} {q : IoReg} (h : SameUnit d e q.unit) (hpin : ∀ p, q ≠ .pin p) :
    e.ioValue q = d.ioValue q := by
  cases q with
  | pin p => exact absurd rfl (hpin p)
  | ddr p => exact congrArg Port.ddr h
  | port p => exact congrArg Port.port h
  | gpior0 | gpior1 | gpior2 | smcr | mcucr | rampz | eind | spl | sph | sreg =>
    obtain ⟨hctl, hsp, hsreg⟩ := h
    simp only [ioValue, hctl, hsp, hsreg]
  | tifr0 | tccr0a | tccr0b | tcnt0 | ocr0a | ocr0b | timsk0 =>
    have htimer : e.timer = d.timer := h
    simp only [ioValue, htimer]
  | ucsr0a | ucsr0b | ucsr0c | ubrr0l | ubrr0h | udr0 =>
    have husart : e.usart = d.usart := h
    simp only [ioValue, husart]

/-! ### A register of plain storage -/

section
variable {d e : Device} {v mask : Byte}

theorem writeMcucr_eq (h : d.writeMcucr v mask = .ok e) :
    e = d.setCtl { d.ctl with mcucr := storeBits 0x90 d.ctl.mcucr v mask } := by
  unfold writeMcucr at h
  split at h
  · cases h
  · cases h; rfl

/-- What a write leaves in the register itself. -/
theorem ioStore_ioValue_self {r : IoReg} {bits : Byte} (hplain : plainBits r = some bits)
    (h : d.ioStore v mask r = .ok e) : e.ioValue r = storeBits bits (d.ioValue r) v mask := by
  cases r with
  | pin | tifr0 | ucsr0a | ucsr0b | udr0 => cases hplain
  | ddr p | port p => cases hplain; cases h; simp only [ioValue, writeDdr, writePort, portRegs_setPortRegs, if_true]
  | gpior0 | gpior1 | gpior2 | smcr | rampz | eind | sreg | tcnt0 | ocr0a | ocr0b | timsk0 | ubrr0l | ubrr0h =>
    cases hplain; cases h; rfl
  | spl => cases hplain; cases h; exact BitVec.extractLsb'_append_eq_right
  | sph => cases hplain; cases h; exact BitVec.extractLsb'_append_eq_left
  | mcucr => cases hplain; rw [writeMcucr_eq h]; rfl
  | tccr0a =>
    cases hplain
    obtain ⟨t, ht, rfl⟩ := exists_of_map_ok h
    exact congrArg Timer0.tccr0a (Timer0.writeTccr0a_frame ht)
  | tccr0b =>
    cases hplain
    obtain ⟨t, ht, rfl⟩ := exists_of_map_ok h
    exact congrArg Timer0.tccr0b (Timer0.writeTccr0b_frame ht)
  | ucsr0c =>
    cases hplain
    obtain ⟨u, hu, rfl⟩ := exists_of_map_ok h
    exact congrArg Usart0.ucsr0c (Usart0.configured_eq hu).1

/-- A write to a register of plain storage leaves what every other register of its unit reads, but for PINx: in each
case the registers that are not the one written are untouched fields. -/
theorem ioStore_ioValue_of_unit_eq {r q : IoReg} (hplain : plainBits r ≠ none) (h : d.ioStore v mask r = .ok e)
    (hne : q ≠ r) (hpin : ∀ p, q ≠ .pin p) (hunit : q.unit = r.unit) : e.ioValue q = d.ioValue q := by
  cases r with
  | pin | tifr0 | ucsr0a | ucsr0b | udr0 => exact absurd rfl hplain
  | ddr p =>
    cases h
    cases q <;> cases hunit
    · exact absurd rfl (hpin p)
    · exact absurd rfl hne
    · simp only [ioValue, writeDdr, portRegs_setPortRegs, if_true]
  | port p =>
    cases h
    cases q <;> cases hunit
    · exact absurd rfl (hpin p)
    · simp only [ioValue, writePort, portRegs_setPortRegs, if_true]
    · exact absurd rfl hne
  | gpior0 | gpior1 | gpior2 | smcr | rampz | eind | sreg | tcnt0 | ocr0a | ocr0b | timsk0 | ubrr0l | ubrr0h =>
    cases h
    cases q <;> cases hunit
    any_goals rfl
    exact absurd rfl hne
  | spl =>
    cases h
    cases q <;> cases hunit
    any_goals rfl
    · exact absurd rfl hne
    · exact BitVec.extractLsb'_append_eq_left
  | sph =>
    cases h
    cases q <;> cases hunit
    any_goals rfl
    · exact BitVec.extractLsb'_append_eq_right
    · exact absurd rfl hne
  | mcucr =>
    rw [writeMcucr_eq h]
    cases q <;> cases hunit
    any_goals rfl
    exact absurd rfl hne
  | tccr0a =>
    obtain ⟨t, ht, rfl⟩ := exists_of_map_ok h
    rw [Timer0.writeTccr0a_frame ht]
    cases q <;> cases hunit
    any_goals rfl
    exact absurd rfl hne
  | tccr0b =>
    obtain ⟨t, ht, rfl⟩ := exists_of_map_ok h
    rw [Timer0.writeTccr0b_frame ht]
    cases q <;> cases hunit
    any_goals rfl
    exact absurd rfl hne
  | ucsr0c =>
    obtain ⟨u, hu, rfl⟩ := exists_of_map_ok h
    obtain ⟨rfl, -⟩ := Usart0.configured_eq hu
    cases q <;> cases hunit
    any_goals rfl
    exact absurd rfl hne

/-- A write to a register of plain storage leaves what every other register reads, but for PINx (R92). -/
theorem ioStore_ioValue_of_ne {r q : IoReg} (hplain : plainBits r ≠ none) (h : d.ioStore v mask r = .ok e)
    (hne : q ≠ r) (hpin : ∀ p, q ≠ .pin p) : e.ioValue q = d.ioValue q := by
  by_cases hunit : q.unit = r.unit
  · exact ioStore_ioValue_of_unit_eq hplain h hne hpin hunit
  · exact ioValue_of_sameUnit (ioStore_sameUnit h hunit) hpin

end

end Device

end Sys2Proof.Machine
end

section
/-! SUPPORT. What a whole write of each register of the I/O window leaves (R92, R95). -/

namespace Sys2Proof.Machine

/-! ### Bits and words as numbers -/

theorem bitOf_and (v w : Byte) (k : Nat) : bitOf (v &&& w) k = (bitOf v k && bitOf w k) := BitVec.getLsbD_and

theorem bitOf_full {k : Nat} (hk : k < 8) : bitOf 0xFF k = true := by
  interval_cases k <;> rfl

/-- The bits of a byte under the mask of a whole write. -/
theorem bitOf_and_full (v : Byte) {k : Nat} (hk : k < 8) : bitOf (v &&& 0xFF) k = bitOf v k := by
  rw [bitOf_and, bitOf_full hk, Bool.and_true]

theorem toNat_append_eq {m n : Nat} (x : BitVec m) (y : BitVec n) :
    (x ++ y).toNat = 2 ^ n * x.toNat + y.toNat := by
  rw [BitVec.toNat_append, ← Nat.shiftLeft_add_eq_or_of_lt y.isLt, Nat.shiftLeft_eq, Nat.mul_comm]

/-! ### The modes of Timer0 as numbers (R450, R451) -/

namespace Timer0

theorem wgm_toNat (t : Timer0) : t.wgm.toNat = wgmOf t.tccr0a t.tccr0b := by
  rw [wgm, wgmOf, toNat_append_eq, BitVec.extractLsb'_toNat, BitVec.extractLsb'_toNat, Nat.shiftRight_eq_div_pow]
  rfl

theorem nonPwm_iff (t : Timer0) : nonPwm t ↔ t.waveMode.isNonPwm = true := by
  have hmode : ∀ w : BitVec 3, (WaveMode.ofWgm w).isNonPwm = true ↔ w.toNat = 0 ∨ w.toNat = 2 := by decide
  rw [nonPwm, ← wgm_toNat, waveMode, hmode]

/-- The PWM modes of R451 are no non-PWM modes. -/
theorem modes_of_fastPwm {t : Timer0} (h : fastPwm t) : t.waveMode.isNonPwm = false ∧ t.waveMode.isFastPwm = true := by
  have hmode : ∀ w : BitVec 3, w.toNat = 3 ∨ w.toNat = 7 →
      (WaveMode.ofWgm w).isNonPwm = false ∧ (WaveMode.ofWgm w).isFastPwm = true := by decide
  rw [fastPwm, ← wgm_toNat] at h
  exact hmode t.wgm h

theorem liveAfterWrite_of_nonPwm {t : Timer0} (h : nonPwm t) (old v free : Byte) : t.liveAfterWrite old v free = v :=
  if_pos (t.nonPwm_iff.mp h)

theorem liveAfterWrite_of_fastPwm {t : Timer0} (h : fastPwm t) (old v free : Byte) :
    t.liveAfterWrite old v free = old := by
  obtain ⟨hnon, hfast⟩ := modes_of_fastPwm h
  rw [liveAfterWrite, hnon, hfast]
  rfl

/-! ### Writes to Timer0's registers -/

/-- A write of TCCR0A, by the mode it leaves (R453). -/
theorem writeTccr0a_modes {t x : Timer0} {v mask : Byte} (h : t.writeTccr0a v mask = .ok x) {u : Timer0}
    (hu : u = { t with tccr0a := x.tccr0a }) : (nonPwm u → x = loaded u) ∧ (¬ nonPwm u → x = u) := by
  obtain ⟨w, hw, hx⟩ := writeTccr0a_eq h
  have huw : u = w := by rw [hu, hw, writeTccr0a_frame h]
  rw [huw, nonPwm_iff]
  exact ⟨fun hmode => hx.trans (if_pos hmode), fun hmode => hx.trans (if_neg hmode)⟩

/-- A whole write of TCCR0B, by the mode it leaves (R453, R468). -/
theorem writeTccr0b_modes {t x : Timer0} {v : Byte} (h : t.writeTccr0b v 0xFF = .ok x) {u : Timer0}
    (hu : u = { t with tccr0b := x.tccr0b }) :
    (nonPwm u → x = { loaded u with
      oc0a := if bitOf v 7 = true then strobed (t.tccr0a.toNat / 64) t.oc0a else t.oc0a
      oc0b := if bitOf v 6 = true then strobed (t.tccr0a.toNat / 16 % 4) t.oc0b else t.oc0b }) ∧
    (¬ nonPwm u → x = u) := by
  obtain ⟨w, hw, hx⟩ := writeTccr0b_eq h
  have huw : u = w := by rw [hu, hw, writeTccr0b_frame h]
  obtain ⟨hcom, hoc0a, hoc0b⟩ : w.tccr0a = t.tccr0a ∧ w.oc0a = t.oc0a ∧ w.oc0b = t.oc0b := by
    rw [hw]
    exact ⟨rfl, rfl, rfl⟩
  rw [bitOf_and_full v (by decide), bitOf_and_full v (by decide), hcom, hoc0a, hoc0b] at hx
  rw [huw, nonPwm_iff]
  exact ⟨fun hmode => hx.trans (if_pos hmode), fun hmode => hx.trans (if_neg hmode)⟩

theorem writeOcr0a_whole (t : Timer0) (v free : Byte) :
    t.writeOcr0a v 0xFF free = { t with ocr0aBuf := v, ocr0a := t.liveAfterWrite t.ocr0a v free } := by
  rw [writeOcr0a, storeBits_all]

theorem writeOcr0b_whole (t : Timer0) (v free : Byte) :
    t.writeOcr0b v 0xFF free = { t with ocr0bBuf := v, ocr0b := t.liveAfterWrite t.ocr0b v free } := by
  rw [writeOcr0b, storeBits_all]

theorem writeTcnt0_whole (t : Timer0) (v : Byte) : t.writeTcnt0 v 0xFF = { t with tcnt0 := v, block := true } := by
  rw [writeTcnt0, storeBits_all]

/-- A 1 clears its flag of the three (R92). -/
theorem bitOf_writeTifr0 (t : Timer0) (v : Byte) {k : Nat} (hk : k < 8) :
    bitOf (t.writeTifr0 v 0xFF).tifr0 k = (bitOf t.tifr0 k && !(flag (k < 3) && bitOf v k)) := by
  have hflags : bitOf 0x07 k = flag (k < 3) := by interval_cases k <;> rfl
  have hnot (w : Byte) : bitOf (~~~w) k = !bitOf w k := by simp [bitOf, hk]
  rw [writeTifr0, bitOf_and, hnot, bitOf_and, bitOf_and, bitOf_full hk, hflags, Bool.true_and,
    Bool.and_comm (bitOf v k)]

end Timer0

/-! ### Writes to USART0's registers -/

theorem Usart0.bitPeriod_eq (u : Usart0) : u.bitPeriod = bitPeriodOf u := by
  rw [bitPeriod, bitPeriodOf, ubrr0, toNat_append_eq, BitVec.extractLsb'_toNat]
  rfl

namespace Usart0
variable {u w : Usart0}

theorem writeUdr0_of_ready (hen : bitOf u.ucsr0b 3 = true) (hidle : u.tx = .idle) (v : Byte) :
    u.writeUdr0 v = { u with tx := .busy 0 (bitPeriodOf u) v } := by
  rw [← bitPeriod_eq]
  exact if_pos (by rw [txen, hen, udre, hidle]; rfl)

theorem writeUdr0_of_not_ready (h : bitOf u.ucsr0b 3 = false ∨ u.tx ≠ .idle) (v : Byte) : u.writeUdr0 v = u := by
  refine if_neg ?_
  simp only [txen, udre, Bool.and_eq_true, decide_eq_true_eq, not_and_or, Bool.not_eq_true]
  exact h

theorem writeUcsr0a_whole {v : Byte} (h : u.writeUcsr0a v 0xFF = .ok w) :
    w = { u with txc := u.txc && !bitOf v 6, u2x := bitOf v 1, mpcm := bitOf v 0 } := by
  obtain ⟨rfl, -⟩ := configured_eq h
  rw [bitOf_and_full v (by decide), bitOf_full (by decide), bitOf_full (by decide), if_pos rfl, if_pos rfl]

/-- What a write of UCSR0B that is not refused does (R50, R492). -/
theorem writeUcsr0b_eq {v mask : Byte} (h : u.writeUcsr0b v mask = .ok w) :
    ∃ x, x = { u with ucsr0b := storeBits 0xFD u.ucsr0b v mask } ∧
      w = if (u.rxen && !x.rxen) = true then x.flushRx else x := by
  unfold writeUcsr0b at h
  split at h
  · next x hx => cases h; exact ⟨x, (configured_eq hx).1, rfl⟩
  · cases h

/-- A whole write of UCSR0B, by what it makes of RXEN0. -/
theorem writeUcsr0b_whole {v : Byte} (h : u.writeUcsr0b v 0xFF = .ok w) :
    ∃ b, (∀ k < 8, bitOf b k = bitOf (if k = 1 then u.ucsr0b else v) k) ∧
      (bitOf u.ucsr0b 4 = true → bitOf v 4 = false → w = { u with
        ucsr0b := b, rx := .idle, rxPrev := false, rxc := false, fe := false, dor := false }) ∧
      (bitOf u.ucsr0b 4 = false ∨ bitOf v 4 = true → w = { u with ucsr0b := b }) := by
  obtain ⟨x, rfl, rfl⟩ := writeUcsr0b_eq h
  have hbits : ∀ k < 8, bitOf (storeBits 0xFD u.ucsr0b v 0xFF) k = bitOf (if k = 1 then u.ucsr0b else v) k := by
    intro k hk
    have himplemented : bitOf 0xFD k = !flag (k = 1) := by interval_cases k <;> rfl
    rw [bitOf_storeBits, bitOf_full hk, himplemented]
    by_cases hone : k = 1 <;> simp [hone]
  have hrxen : bitOf (storeBits 0xFD u.ucsr0b v 0xFF) 4 = bitOf v 4 := hbits 4 (by decide)
  refine ⟨_, hbits, fun hold hnew => if_pos ?_, fun hrx => if_neg ?_⟩
  · rw [rxen, rxen, hold, hrxen, hnew]
    rfl
  · rw [rxen, rxen, hrxen]
    rcases hrx with hrx | hrx <;> simp [hrx]

end Usart0

/-! ### Each unit's writes -/

namespace Device

/-- A whole write of a register of plain storage (R92). -/
theorem plainWrite (d : Device) (v : Byte) : PlainWrite d v := by
  intro r bits x hplain hreserved h
  refine ⟨?_, fun q hne hpin => ioStore_ioValue_of_ne (by simp [hplain]) h hne hpin⟩
  rw [ioStore_ioValue_self hplain h, storeBits_whole hreserved]

/-- A whole write of each of Timer0's registers with a side effect (R453, R466, R468). -/
theorem timerWrite (d : Device) (v : Byte) : TimerWrite d v := by
  refine ⟨?tcnt0, ⟨_, fun k hk => Timer0.bitOf_writeTifr0 d.timer v hk, rfl⟩, ?ocr0a, ?ocr0b, ?tccr0a, ?tccr0b⟩
  case tcnt0 => exact congrArg (fun t => Except.ok (d.setTimer t)) (d.timer.writeTcnt0_whole v)
  case ocr0a =>
    intro x h
    cases h
    rw [Timer0.writeOcr0a_whole]
    refine ⟨fun hmode => ?_, fun hmode => ?_⟩
    · rw [Timer0.liveAfterWrite_of_nonPwm hmode]; rfl
    · rw [Timer0.liveAfterWrite_of_fastPwm hmode]; rfl
  case ocr0b =>
    intro x h
    cases h
    rw [Timer0.writeOcr0b_whole]
    refine ⟨fun hmode => ?_, fun hmode => ?_⟩
    · rw [Timer0.liveAfterWrite_of_nonPwm hmode]; rfl
    · rw [Timer0.liveAfterWrite_of_fastPwm hmode]; rfl
  case tccr0a =>
    intro x h
    obtain ⟨t, ht, rfl⟩ := exists_of_map_ok h
    obtain ⟨hnon, hpwm⟩ := Timer0.writeTccr0a_modes ht rfl
    exact ⟨fun hmode => congrArg d.setTimer (hnon hmode), fun hmode => congrArg d.setTimer (hpwm hmode)⟩
  case tccr0b =>
    intro x h
    obtain ⟨t, ht, rfl⟩ := exists_of_map_ok h
    obtain ⟨hnon, hpwm⟩ := Timer0.writeTccr0b_modes ht rfl
    exact ⟨fun hmode => congrArg d.setTimer (hnon hmode), fun hmode => congrArg d.setTimer (hpwm hmode)⟩

/-- A whole write of each of USART0's registers with a side effect (R49, R50, R486, R492). -/
theorem usartWrite (d : Device) (v : Byte) : UsartWrite d v := by
  refine ⟨?starts, ?ignored, ?ucsr0a, ?ucsr0b⟩
  case starts =>
    intro hen hidle
    exact congrArg (fun u => Except.ok (d.setUsart u)) (Usart0.writeUdr0_of_ready hen hidle v)
  case ignored =>
    intro h
    exact congrArg (fun u => Except.ok (d.setUsart u)) (Usart0.writeUdr0_of_not_ready h v)
  case ucsr0a =>
    intro x h
    obtain ⟨u, hu, rfl⟩ := exists_of_map_ok h
    exact congrArg d.setUsart (Usart0.writeUcsr0a_whole hu)
  case ucsr0b =>
    intro x h
    obtain ⟨u, hu, rfl⟩ := exists_of_map_ok h
    obtain ⟨b, hb, hflush, hkeep⟩ := Usart0.writeUcsr0b_whole hu
    exact ⟨b, hb, fun h1 h0 => congrArg d.setUsart (hflush h1 h0), fun hrx => congrArg d.setUsart (hkeep hrx)⟩

/-- A whole write of PINx (R53, R515). -/
theorem pinWrite (d : Device) (v : Byte) (p : PortName) : ∃ f, (∀ k : Fin 8, bitOf f k.val =
      (bitOf (d.portRegs p).port k.val ^^ (bitOf v k.val && p.hasPin k))) ∧
    d.ioStore v 0xFF (.pin p) = .ok (d.setPortRegs p { d.portRegs p with port := f }) := by
  refine ⟨_, fun k => ?_, rfl⟩
  have hxor (a b : Byte) : bitOf (a ^^^ b) k = (bitOf a k ^^ bitOf b k) := BitVec.getLsbD_xor
  rw [hxor, bitOf_and, bitOf_and, bitOf_full k.isLt, Bool.true_and]
  rfl

end Device

/-- Settles O23: plain storage register by register, then the registers with a side effect, unit by unit. -/
theorem ioReadBack : Obligations.IoReadBack := by
  unfold Obligations.IoReadBack
  exact fun d v => ⟨d.plainWrite v, d.timerWrite v, d.usartWrite v, d.pinWrite v⟩

end Sys2Proof.Machine
end

section
/-! SUPPORT. The data access of an instruction (R87, R300), said once: what reaches SRAM, SP, a peripheral or a control
register is the one access that `Instr.access` names, and the rest of an instruction's effect leaves those alone. One
lemma for each shared operation, then one for `exec`; the frames of memory and of the units follow by the cases of the
access. -/

namespace Sys2Proof.Machine

namespace Device

/-- `Accesses d access m`: the data access `access` of the Device `d`, when it completes, makes `m` of it. An access to
the register file, or one to SRAM that reads, changes nothing here. -/
inductive Accesses (d : Device) : Access → Device → Prop
  | refl (access : Access) : Accesses d access d
  | read {access : Access} {r : IoReg} (h : access.target = some r) : Accesses d access (d.afterIoRead r)
  | write {access : Access} {r : IoReg} {v mask : Byte} {m : Device} (h : access.target = some r)
      (hm : d.ioStore v mask r = .ok m) : Accesses d access m
  | store (a : Word) (v : Byte) : Accesses d (.store a) (d.setSramByte a.toNat v)
  | push {vs : List Byte} {m : Device} (h : d.pushBytes vs = .ok m) : Accesses d (.push vs.length) m
  | pop (n : Nat) : Accesses d (.pop n) (d.setSp (d.sp + BitVec.ofNat 16 n))

section
variable {d m : Device}

theorem Accesses.memRead {a : Word} {v : Byte} (h : d.memRead a = .ok (v, m)) : Accesses d (.load a) m := by
  rcases memRead_cases h with ⟨-, -, rfl⟩ | ⟨-, -, r, hr, -, rfl⟩ | ⟨-, -, -, rfl⟩
  · exact .refl _
  · exact .read hr
  · exact .refl _

theorem Accesses.ioRead {a : Nat} {v : Byte} (h : d.ioRead a = .ok (v, m)) : Accesses d (.io a) m := by
  rcases d.ioRead_cases a with ⟨r, hr, he⟩ | ⟨-, he⟩ <;> rw [he] at h <;> cases h
  exact .read hr

theorem Accesses.ioWrite {a : Nat} {v mask : Byte} (h : d.ioWrite a v mask = .ok m) : Accesses d (.io a) m := by
  rcases d.ioWrite_cases a v mask with ⟨r, hr, he⟩ | ⟨-, he⟩ <;> rw [he] at h
  · exact .write hr h
  · cases h

theorem Accesses.push8 {v : Byte} (h : d.push8 v = .ok m) : Accesses d (.push 1) m :=
  .push (vs := [v]) (by rw [pushBytes, h]; rfl)

theorem Accesses.pop8 {v : Byte} (h : d.pop8 = .ok (v, m)) : Accesses d (.pop 1) m := by
  rcases d.pop8_cases with ⟨-, he⟩ | ⟨-, he⟩ <;> rw [he] at h <;> cases h
  exact .pop 1

theorem length_raBytesOf (c : Config) (v : ProgAddr) : (raBytesOf c v).length = c.pcBits.raBytes := by
  unfold raBytesOf
  cases c.pcBits <;> rfl

theorem Accesses.pushRA {c : Config} {v : ProgAddr} (h : d.pushRA c v = .ok m) :
    Accesses d (.push c.pcBits.raBytes) m := by
  rw [← length_raBytesOf c v]
  exact .push h

end

/-! ### The rest of an instruction's effect -/

/-- `Leaves i m e`: the instruction `i` makes `e` of the Device `m` that its access has left, changing registers, SREG,
pc, T, `inhibit` and the mode, and RAMPZ by ELPM Rd, Z+ alone (R336). -/
structure Leaves (i : Instr) (m e : Device) : Prop where
  frame : e = { m with
    regs := e.regs
    sreg := e.sreg
    pc := e.pc
    ctl := { m.ctl with rampz := e.ctl.rampz }
    inhibit := e.inhibit
    mode := e.mode
    time := e.time }
  rampz : (∀ r, i ≠ .elpmZInc r) → e.ctl.rampz = m.ctl.rampz

/-- The effect `x` of `d` for the instruction `i`, if it raises no fault, is the access `access` and what `i` does
beside it. -/
def ByAccess (i : Instr) (d : Device) (access : Access) (x : Except FaultDetail Device) : Prop :=
  ∀ e, x = .ok e → ∃ m, Accesses d access m ∧ Leaves i m e

section
variable {i : Instr} {d : Device} {access : Access} {c : Config}

theorem ByAccess.of_leaves {m e : Device} (h : Accesses d access m) (he : Leaves i m e) :
    ByAccess i d access (.ok e) := by
  rintro _ ⟨⟩
  exact ⟨m, h, he⟩

/-- An effect without an access. -/
theorem ByAccess.of_rest {e : Device} (he : Leaves i d e) : ByAccess i d access (.ok e) := .of_leaves (.refl _) he

theorem ByAccess.of_error (f : FaultDetail) : ByAccess i d access (.error f) := fun _ h => by cases h

theorem ByAccess.map {α : Type} {x : Except FaultDetail α} {f : α → Device}
    (h : ∀ a, x = .ok a → ∃ m, Accesses d access m ∧ Leaves i m (f a)) : ByAccess i d access (x.map f) := by
  cases x with
  | error f => exact .of_error f
  | ok a =>
    rintro _ ⟨⟩
    exact h a rfl

theorem Leaves.trans {m e f : Device} (h : Leaves i m e) (h' : Leaves i e f) : Leaves i m f where
  frame := by rw [h'.frame, h.frame]
  rampz hi := (h'.rampz hi).trans (h.rampz hi)

theorem ptrUpdate_leaves (m : Device) (p : Ptr) (old : Word) (mode : PtrMode) :
    Leaves i m (m.ptrUpdate p old mode) := by
  cases mode <;> exact ⟨rfl, fun _ => rfl⟩

/-- A store below 0x20 is a register's write beside an access without effect (R32, R89). -/
theorem memWrite_accesses {m : Device} {a : Word} {v : Byte} (h : d.memWrite a v = .ok m) :
    ∃ x, Accesses d (.store a) x ∧ Leaves i x m := by
  rcases memWrite_cases h with ⟨-, rfl⟩ | ⟨-, -, r, hr, hm⟩ | ⟨-, -, rfl⟩
  · exact ⟨d, .refl _, rfl, fun _ => rfl⟩
  · exact ⟨m, .write hr hm, rfl, fun _ => rfl⟩
  · exact ⟨_, .store a v, rfl, fun _ => rfl⟩

theorem loadFrom_byAccess (rd : Reg) (a : Word) (words : ProgAddr) :
    ByAccess i d (.load a) (d.loadFrom c rd a words) :=
  .map fun _ h => ⟨_, .memRead h, rfl, fun _ => rfl⟩

theorem load_byAccess (rd : Reg) (p : Ptr) (mode : PtrMode) :
    ByAccess i d (.load (d.ptrAddr p mode)) (d.load c rd p mode) :=
  .map fun _ h => ⟨_, .memRead h, (ptrUpdate_leaves _ p _ mode).trans ⟨rfl, fun _ => rfl⟩⟩

theorem storeTo_byAccess (rr : Reg) (a : Word) (words : ProgAddr) :
    ByAccess i d (.store a) (d.storeTo c rr a words) :=
  .map fun m h => by
    obtain ⟨x, hx, hm⟩ := memWrite_accesses (i := i) h
    exact ⟨x, hx, hm.trans ⟨rfl, fun _ => rfl⟩⟩

theorem store_byAccess (rr : Reg) (p : Ptr) (mode : PtrMode) :
    ByAccess i d (.store (d.ptrAddr p mode)) (d.store c rr p mode) :=
  .map fun m h => by
    obtain ⟨x, hx, hm⟩ := memWrite_accesses (i := i) h
    exact ⟨x, hx, (hm.trans (ptrUpdate_leaves _ p _ mode)).trans ⟨rfl, fun _ => rfl⟩⟩

theorem loadProg_byAccess (rd : Reg) (a : Nat) {after : Device → Device} (h : Leaves i d (after d)) :
    ByAccess i d access (d.loadProg c rd a after) :=
  .map fun _ _ => ⟨d, .refl _, h.trans ⟨rfl, fun _ => rfl⟩⟩

theorem call_byAccess (words target : ProgAddr) (cycles : Nat) :
    ByAccess i d (.push c.pcBits.raBytes) (d.call c words target cycles) :=
  .map fun _ h => ⟨_, .pushRA h, rfl, fun _ => rfl⟩

/-- A call whose target is checked first (R250, R409). -/
theorem checkedCall_byAccess (words : ProgAddr) (cycles : Nat) (target : Except FaultDetail ProgAddr) :
    ByAccess i d (.push c.pcBits.raBytes) (match target with
      | .ok t => d.call c words t cycles
      | .error e => .error e) := by
  cases target with
  | ok t => exact call_byAccess words t cycles
  | error f => exact .of_error f

theorem returnTo_byAccess : ByAccess i d (.pop c.pcBits.raBytes) (d.returnTo c) := fun e h => by
  refine ⟨_, .pop _, ?_⟩
  rw [(returnTo_frame h).1]
  exact ⟨rfl, fun _ => rfl⟩

theorem returnFromInterrupt_byAccess : ByAccess i d (.pop c.pcBits.raBytes) (d.returnFromInterrupt c) :=
  .map fun e h => by
    obtain ⟨m, hm, hrest⟩ := returnTo_byAccess (i := i) e h
    exact ⟨m, hm, hrest.trans ⟨rfl, fun _ => rfl⟩⟩

theorem skipIf_leaves {e : Device} {cond : Bool} (h : d.skipIf c cond = .ok e) : Leaves i d e := by
  obtain ⟨n, -, rfl⟩ := skipIf_cases h
  exact ⟨rfl, fun _ => rfl⟩

theorem skipOnIo_byAccess (a : BitVec 5) (b : Fin 8) (want : Bool) :
    ByAccess i d (.io (ioAddr a)) (d.skipOnIo c a b want) := by
  unfold skipOnIo
  cases h : d.ioRead (ioAddr a) with
  | error f => exact .of_error f
  | ok r => exact fun e he => ⟨_, .ioRead h, skipIf_leaves he⟩

end

end Device

open Device

/-- Every instruction retires an effect of the Device under study that, unless it is a fault, is its access and what
the instruction does beside it. -/
theorem exec_byAccess (i : Instr) (s : State) :
    ∃ x, exec i s = s.retire x ∧ ByAccess i s.dev (Instr.access s.cfg s.dev i) x := by
  cases i with
  | add | adc | adiw | sub | subi | sbc | sbci | sbiw | and | andi | or | ori | eor | com | neg | inc | dec | mul | muls
  | mulsu | fmul | fmuls | fmulsu | rjmp | ijmp | cp | cpc | cpi | mov | movw | ldi | lsr | ror | asr | swap | bset
  | bclr | bst | bld | nop | wdr | brk =>
    refine ⟨_, rfl, .of_rest ?_⟩
    exact ⟨rfl, fun _ => rfl⟩
  | eijmp | jmp => exact ⟨_, rfl, .map fun _ _ => ⟨_, .refl _, rfl, fun _ => rfl⟩⟩
  | rcall | icall => exact ⟨_, rfl, call_byAccess _ _ _⟩
  | eicall | call => exact ⟨_, rfl, checkedCall_byAccess _ _ _⟩
  | ret => exact ⟨_, rfl, returnTo_byAccess⟩
  | reti => exact ⟨_, rfl, returnFromInterrupt_byAccess⟩
  | cpse | sbrc | sbrs => exact ⟨_, rfl, fun _ h => ⟨_, .refl _, skipIf_leaves h⟩⟩
  | sbic | sbis => exact ⟨_, rfl, skipOnIo_byAccess _ _ _⟩
  | brbs | brbc => exact ⟨_, rfl, .of_rest (by split <;> exact ⟨rfl, fun _ => rfl⟩)⟩
  | lds => exact ⟨_, rfl, loadFrom_byAccess _ _ _⟩
  | ldX | ldXInc | ldDecX | ldYInc | ldDecY | ldY | lddY | ldZInc | ldDecZ | ldZ | lddZ =>
    exact ⟨_, rfl, load_byAccess _ _ _⟩
  | sts => exact ⟨_, rfl, storeTo_byAccess _ _ _⟩
  | stX | stXInc | stDecX | stYInc | stDecY | stY | stdY | stZInc | stDecZ | stZ | stdZ =>
    exact ⟨_, rfl, store_byAccess _ _ _⟩
  | lpm | lpmZ | lpmZInc | elpm | elpmZ => exact ⟨_, rfl, loadProg_byAccess _ _ ⟨rfl, fun _ => rfl⟩⟩
  | elpmZInc r => exact ⟨_, rfl, loadProg_byAccess _ _ ⟨rfl, fun h => absurd rfl (h r)⟩⟩
  | spm => exact ⟨_, rfl, .of_error _⟩
  | ioIn => exact ⟨_, rfl, .map fun _ h => ⟨_, .ioRead h, rfl, fun _ => rfl⟩⟩
  | ioOut | sbi | cbi => exact ⟨_, rfl, .map fun _ h => ⟨_, .ioWrite h, rfl, fun _ => rfl⟩⟩
  | push => exact ⟨_, rfl, .map fun _ h => ⟨_, .push8 h, rfl, fun _ => rfl⟩⟩
  | pop => exact ⟨_, rfl, .map fun _ h => ⟨_, .pop8 h, rfl, fun _ => rfl⟩⟩
  | sleep =>
    refine ⟨_, rfl, ?_⟩
    split
    · exact .of_rest ⟨rfl, fun _ => rfl⟩
    · split
      · exact .of_rest ⟨rfl, fun _ => rfl⟩
      · exact .of_error _

/-- What an instruction can make of its Device, whole or faulting: a fault leaves everything but the mode. -/
theorem exec_accesses {i : Instr} {s t : State} (h : exec i s = .next t) :
    ∃ m, Accesses s.dev (Instr.access s.cfg s.dev i) m ∧ Leaves i m t.dev := by
  obtain ⟨x, hx, haccess⟩ := exec_byAccess i s
  rw [hx] at h
  cases x with
  | ok e => cases h; exact haccess e rfl
  | error f => cases h; exact ⟨s.dev, .refl _, rfl, fun _ => rfl⟩

end Sys2Proof.Machine
end

section
/-! SUPPORT. The frames of an instruction (R86, R89, R91 to R96), by the cases of its access. -/

namespace Sys2Proof.Machine

namespace Device

/-! ### SRAM -/

theorem mem_stored_push {sp : Word} {n a : Nat} :
    a ∈ (Access.push n).stored sp ↔ ∃ i < n, (sp - BitVec.ofNat 16 i).toNat = a := by
  simp [Access.stored]

/-- Writing one byte of SRAM leaves the others. -/
theorem sramByte_setSramByte_of_ne {d : Device} {a b : Nat} (hwf : Memory.wf .sram d.sram = true) (hne : b ≠ a)
    (v : Byte) : (d.setSramByte a v).sramByte b = d.sramByte b :=
  Memory.read_write_other hwf hne v

/-- Pushes write the bytes from SP downwards (R96, R98). -/
theorem pushBytes_sramByte {vs : List Byte} {d m : Device} {a : Nat} (h : d.pushBytes vs = .ok m)
    (hwf : Memory.wf .sram d.sram = true) (ha : a ∉ (Access.push vs.length).stored d.sp) :
    m.sramByte a = d.sramByte a := by
  induction vs generalizing d with
  | nil => cases h; rfl
  | cons v vs ih =>
    rw [mem_stored_push] at ha
    rw [pushBytes] at h
    rcases d.push8_cases v with ⟨-, he⟩ | ⟨-, he⟩ <;> rw [he] at h
    · have hfirst : a ≠ d.sp.toNat := fun heq => ha ⟨0, Nat.succ_pos _, by simp [heq]⟩
      refine (ih h (Memory.wf_write _ _ hwf) ?_).trans (sramByte_setSramByte_of_ne hwf hfirst v)
      intro hmem
      obtain ⟨i, hi, rfl⟩ := mem_stored_push.mp hmem
      refine ha ⟨i + 1, Nat.succ_lt_succ hi, ?_⟩
      rw [setSp_sp, BitVec.sub_sub, BitVec.add_comm, BitVec.ofNat_add]
      rfl
    · cases h

section
variable {d m : Device} {access : Access}

theorem Accesses.sramByte (h : Accesses d access m) (hwf : Memory.wf .sram d.sram = true) {a : Nat}
    (ha : a ∉ access.stored d.sp) : m.sramByte a = d.sramByte a := by
  cases h with
  | refl | pop => rfl
  | read => rw [(d.afterIoRead_frame _).1]; rfl
  | write _ hm => rw [ioStore_eq hm]; rfl
  | store b v => exact sramByte_setSramByte_of_ne hwf (List.ne_of_not_mem_cons ha) v
  | push hm => exact pushBytes_sramByte hm hwf ha

/-! ### The units -/

theorem SameUnit.trans {e : Device} {u : IoUnit} (h : SameUnit d m u) (h' : SameUnit m e u) : SameUnit d e u := by
  cases u with
  | core => exact ⟨h'.1.trans h.1, h'.2.1.trans h.2.1, h'.2.2.trans h.2.2⟩
  | timer | usart | port => exact Eq.trans h' h

/-- The units beside the core. -/
theorem SameUnit.of_ne_core {u : IoUnit} (hcore : u ≠ .core) (htimer : m.timer = d.timer) (husart : m.usart = d.usart)
    (hports : m.ports = d.ports) : SameUnit d m u := by
  cases u with
  | core => exact absurd rfl hcore
  | timer => exact htimer
  | usart => exact husart
  | port p => rw [SameUnit, portRegs, hports]; rfl

/-- Pushes leave all but SRAM and SP. -/
theorem pushBytes_eq {vs : List Byte} (h : d.pushBytes vs = .ok m) : m = { d with sram := m.sram, sp := m.sp } := by
  rw [(pushBytes_frame h).1]

theorem sameUnit_afterIoRead {r : IoReg} {u : IoUnit} (hu : u ≠ r.unit) : SameUnit d (d.afterIoRead r) u := by
  obtain ⟨hframe, husart⟩ := d.afterIoRead_frame r
  cases u with
  | usart => exact husart fun hr => hu (by rw [hr]; rfl)
  | core => rw [hframe]; exact ⟨rfl, rfl, rfl⟩
  | timer | port => rw [hframe]; rfl

/-- An access leaves every unit but its register's, and the core's registers, where a push or a pop moves SP. -/
theorem Accesses.sameUnit (h : Accesses d access m) {u : IoUnit} (hcore : u ≠ .core)
    (hu : access.target.map IoReg.unit ≠ some u) : SameUnit d m u := by
  have hother {r : IoReg} (hr : access.target = some r) : u ≠ r.unit := by
    rintro rfl
    exact hu (by rw [hr]; rfl)
  cases h with
  | read hr => exact sameUnit_afterIoRead (hother hr)
  | write hr hm => exact ioStore_sameUnit hm (hother hr)
  | push hm => rw [pushBytes_eq hm]; exact .of_ne_core hcore rfl rfl rfl
  | refl | store | pop => exact .of_ne_core hcore rfl rfl rfl

/-- No access sets or clears a `fired` latch. -/
theorem Accesses.fired (h : Accesses d access m) : m.fired25 = d.fired25 ∧ m.fired26 = d.fired26 := by
  cases h with
  | refl | store | pop => exact ⟨rfl, rfl⟩
  | read => rw [(d.afterIoRead_frame _).1]; exact ⟨rfl, rfl⟩
  | write _ hm => rw [ioStore_eq hm]; exact ⟨rfl, rfl⟩
  | push hm => rw [pushBytes_eq hm]; exact ⟨rfl, rfl⟩

/-! ### The core's registers -/

theorem plainBits_of_core {r : IoReg} (h : r.unit = .core) : plainBits r ≠ none := by
  cases r <;> cases h <;> nofun

/-- An access leaves what every register of the core reads, but for the register it reaches, and for SPL and SPH when
it is a push or a pop. -/
theorem Accesses.ioValue (h : Accesses d access m) {q : IoReg} (hq : q.unit = .core) (hne : access.target ≠ some q)
    (hstack : (q ≠ .spl ∧ q ≠ .sph) ∨ ∀ n, access ≠ .push n ∧ access ≠ .pop n) : m.ioValue q = d.ioValue q := by
  have hpin (p : PortName) : q ≠ .pin p := by rintro rfl; cases hq
  have hmoved {e : Device} (hctl : e.ctl = d.ctl) (hsreg : e.sreg = d.sreg) (hsp : q ≠ .spl ∧ q ≠ .sph) :
      e.ioValue q = d.ioValue q := by
    cases q <;> cases hq
    case spl => exact absurd rfl hsp.1
    case sph => exact absurd rfl hsp.2
    case sreg => exact hsreg
    all_goals rw [Device.ioValue, hctl]; rfl
  cases h with
  | refl => rfl
  | store => exact ioValue_of_sameUnit (hq ▸ ⟨rfl, rfl, rfl⟩) hpin
  | read hr =>
    refine ioValue_of_sameUnit ?_ hpin
    rw [hq, (d.afterIoRead_frame _).1]
    exact ⟨rfl, rfl, rfl⟩
  | @write _ r _ _ _ hr hm =>
    by_cases hunit : r.unit = .core
    · exact ioStore_ioValue_of_ne (plainBits_of_core hunit) hm (fun heq => hne (heq ▸ hr)) hpin
    · exact ioValue_of_sameUnit (ioStore_sameUnit hm (hq.trans_ne (Ne.symm hunit))) hpin
  | push hm =>
    refine hmoved ?_ ?_ (hstack.resolve_right fun hn => (hn _).1 rfl)
    all_goals rw [pushBytes_eq hm]
  | pop => exact hmoved rfl rfl (hstack.resolve_right fun hn => (hn _).2 rfl)

/-- The rest of an instruction leaves what the core's registers read, but for SREG, and for RAMPZ by ELPM Rd, Z+. -/
theorem Leaves.ioValue {i : Instr} {e : Device} (h : Leaves i m e) {q : IoReg} (hq : q.unit = .core)
    (hsreg : q ≠ .sreg) (hrampz : q = .rampz → ∀ r, i ≠ .elpmZInc r) : e.ioValue q = m.ioValue q := by
  have hctl : e.ctl = { m.ctl with rampz := e.ctl.rampz } := by conv_lhs => rw [h.frame]
  cases q <;> cases hq
  case sreg => exact absurd rfl hsreg
  case rampz => exact h.rampz (hrampz rfl)
  case spl | sph => rw [h.frame]; rfl
  all_goals rw [Device.ioValue, hctl]; rfl

/-- The rest of an instruction leaves every unit but the core. -/
theorem Leaves.sameUnit {i : Instr} {e : Device} (h : Leaves i m e) {u : IoUnit} (hcore : u ≠ .core) :
    SameUnit m e u := by
  rw [h.frame]
  exact .of_ne_core hcore rfl rfl rfl

end

end Device

open Device

/-! ### The obligations -/

/-- No instruction changes program memory (R83, R86). -/
theorem exec_prog {i : Instr} {s t : State} (h : exec i s = .next t) : t.dev.prog = s.dev.prog := by
  obtain ⟨x, hx, hkeeps⟩ := exec_keepsBuild i s
  obtain ⟨d, hd, hbuild⟩ := s.retire_sameBuild hkeeps
  rw [hx, hd] at h
  cases h
  exact hbuild.prog

/-- Settles O28: SRAM is reached by the instruction's access alone, and a store or a push writes the bytes that
`Access.stored` names. -/
theorem memoryFrame : Obligations.MemoryFrame := by
  unfold Obligations.MemoryFrame
  intro i s t a h hwf ha
  obtain ⟨m, haccess, hrest⟩ := exec_accesses h
  refine ⟨?_, exec_prog h⟩
  rw [hrest.frame]
  exact haccess.sramByte hwf ha

/-- An instruction leaves every unit but that of the register its access reaches, and but the core. -/
theorem exec_sameUnit {i : Instr} {s t : State} (h : exec i s = .next t) {u : IoUnit} (hcore : u ≠ .core)
    (hu : (Instr.access s.cfg s.dev i).target.map IoReg.unit ≠ some u) : SameUnit s.dev t.dev u := by
  obtain ⟨m, haccess, hrest⟩ := exec_accesses h
  exact (haccess.sameUnit hcore hu).trans (hrest.sameUnit hcore)

/-- An instruction leaves what a register of the core reads, SREG apart, unless its access reaches the register, it is
ELPM Rd, Z+ and the register RAMPZ, or it pushes or pops and the register is a byte of SP. -/
theorem exec_ioValue {i : Instr} {s t : State} (h : exec i s = .next t) {q : IoReg} (hq : q.unit = .core)
    (hsreg : q ≠ .sreg) (hrampz : q = .rampz → ∀ r, i ≠ .elpmZInc r)
    (hne : (Instr.access s.cfg s.dev i).target ≠ some q)
    (hstack : (q ≠ .spl ∧ q ≠ .sph) ∨
      ∀ n, Instr.access s.cfg s.dev i ≠ .push n ∧ Instr.access s.cfg s.dev i ≠ .pop n) :
    t.dev.ioValue q = s.dev.ioValue q := by
  obtain ⟨m, haccess, hrest⟩ := exec_accesses h
  exact (hrest.ioValue hq hsreg hrampz).trans (haccess.ioValue hq hne hstack)

theorem exec_fired {i : Instr} {s t : State} (h : exec i s = .next t) :
    t.dev.fired25 = s.dev.fired25 ∧ t.dev.fired26 = s.dev.fired26 := by
  obtain ⟨m, haccess, hrest⟩ := exec_accesses h
  rw [hrest.frame]
  exact haccess.fired

/-- Settles O29: the peripherals and the ports unit by unit, the core's registers by what each reads, SP by its two
bytes. -/
theorem specialFrame : Obligations.SpecialFrame := by
  unfold Obligations.SpecialFrame
  intro i s t h access unit
  obtain ⟨h25, h26⟩ := exec_fired h
  have hctl {q : IoReg} (hq : q.unit = .core) (hne : q ∉ [.sreg, .rampz, .spl, .sph]) (ht : access.target ≠ some q) :
      t.dev.ioValue q = s.dev.ioValue q := by
    simp only [List.mem_cons, List.not_mem_nil, or_false, not_or] at hne
    obtain ⟨hsreg, hrampz, hspl, hsph⟩ := hne
    exact exec_ioValue h hq hsreg (fun heq => absurd heq hrampz) ht (.inl ⟨hspl, hsph⟩)
  refine ⟨h25, h26, exec_sameUnit (u := .timer) h nofun, exec_sameUnit (u := .usart) h nofun,
    fun p => exec_sameUnit (u := .port p) h nofun, hctl (q := .eind) rfl (by decide), hctl (q := .smcr) rfl (by decide),
    hctl (q := .mcucr) rfl (by decide), hctl (q := .gpior0) rfl (by decide), hctl (q := .gpior1) rfl (by decide),
    hctl (q := .gpior2) rfl (by decide), fun ht hi => ?_, fun hspl hsph hstack => ?_⟩
  · exact exec_ioValue (q := .rampz) h rfl nofun (fun _ => hi) ht (.inl ⟨nofun, nofun⟩)
  · exact word_ext (exec_ioValue (q := .spl) h rfl nofun nofun hspl (.inr hstack))
      (exec_ioValue (q := .sph) h rfl nofun nofun hsph (.inr hstack))

end Sys2Proof.Machine
end

section
/-! SUPPORT. The formats of 30_encoding.md (R125 to R138) as words with slices: which words have a row's fixed bits
and the operands its fields read. -/

namespace Sys2Proof

open Decode Encode
open Instr (highReg mulReg iwReg evenReg)

/-! ### Slices of a word -/

/-- An appended word is a word with its two slices. -/
theorem append_eq_iff {n m : Nat} {a : BitVec n} {b : BitVec m} {x : BitVec (n + m)} :
    a ++ b = x ↔ a = x.extractLsb' m n ∧ b = x.extractLsb' 0 m := by
  constructor
  · rintro rfl
    exact ⟨BitVec.extractLsb'_append_eq_left.symm, BitVec.extractLsb'_append_eq_right.symm⟩
  · rintro ⟨rfl, rfl⟩
    exact BitVec.extractLsb'_append_extractLsb'

/-- From bit `i` on, the word holds `a`. -/
def HasSlice (w : Word) (i : Nat) {n : Nat} (a : BitVec n) : Prop := w.extractLsb' i n = a

/-- A slice of a slice. -/
theorem extractLsb'_extractLsb' {w : Nat} (x : BitVec w) {i n j m : Nat} (h : j + m ≤ n) :
    (x.extractLsb' i n).extractLsb' j m = x.extractLsb' (i + j) m := by
  ext k hk
  simp only [BitVec.getElem_extractLsb', BitVec.getLsbD_extractLsb', show j + k < n by omega, decide_true,
    Bool.true_and, Nat.add_assoc]

/-- A format is a word whose slices are its parts, the last part lowest. -/
theorem hasSlice_append {w : Word} {i n m : Nat} {a : BitVec n} {b : BitVec m} :
    HasSlice w i (a ++ b) ↔ HasSlice w (i + m) a ∧ HasSlice w i b := by
  unfold HasSlice
  rw [eq_comm, append_eq_iff, extractLsb'_extractLsb' _ (by omega), extractLsb'_extractLsb' _ (by omega), eq_comm,
    eq_comm (a := b), Nat.add_zero]

theorem hasSlice_word {w a : Word} : HasSlice w 0 a ↔ a = w := by
  rw [HasSlice, BitVec.extractLsb'_eq_self, eq_comm]

/-- What a mask keeps. -/
theorem hasSlice_and_of_ones {w m : Word} {i n : Nat} {a : BitVec n} (h : m.extractLsb' i n = BitVec.allOnes n) :
    HasSlice (w &&& m) i a ↔ HasSlice w i a := by
  rw [HasSlice, BitVec.extractLsb'_and, h, BitVec.and_allOnes, HasSlice]

/-- What a mask clears. -/
theorem hasSlice_and_of_zero {w m : Word} {i n : Nat} {a : BitVec n} (h : m.extractLsb' i n = 0) :
    HasSlice (w &&& m) i a ↔ a = 0 := by
  rw [HasSlice, BitVec.extractLsb'_and, h, BitVec.ofNat_eq_ofNat, BitVec.and_zero, eq_comm]

/-! ### Operands and the slices that hold them (R125 to R138) -/

/-- A number of m = 2 ^ n values and its n bits. -/
theorem ofNat_toNat_eq_iff {n m : Nat} [NeZero m] (hm : m = 2 ^ n) {x : BitVec n} {a : Fin m} :
    Fin.ofNat m x.toNat = a ↔ x = BitVec.ofNat n a.val := by
  have hx : x.toNat % m = x.toNat := Nat.mod_eq_of_lt (hm ▸ x.isLt)
  have ha : a.val % 2 ^ n = a.val := Nat.mod_eq_of_lt (hm ▸ a.isLt)
  rw [Fin.ext_iff, ← BitVec.toNat_inj, BitVec.toNat_ofNat, Fin.val_ofNat, hx, ha]

theorem reg5_eq_iff {w : Word} {d : Reg} : reg5 w = d ↔ HasSlice w 4 (r5 d) := ofNat_toNat_eq_iff rfl

theorem srcReg_eq_iff {w : Word} {r : Reg} :
    srcReg w = r ↔ HasSlice w 9 ((r5 r).extractLsb' 4 1) ∧ HasSlice w 0 ((r5 r).extractLsb' 0 4) :=
  (ofNat_toNat_eq_iff (by rfl)).trans append_eq_iff

/-- R16..R31 in four bits (R126, R129). -/
theorem high_eq_iff {x : BitVec 4} {d : Reg} : Fin.ofNat 32 (16 + x.toNat) = d ↔ highReg d = true ∧ x = r4 d := by
  have hx := x.isLt
  simp only [Fin.ext_iff, Fin.val_ofNat, highReg, decide_eq_true_eq, r4, ← BitVec.toNat_inj, BitVec.toNat_ofNat]
  omega

theorem highDst_eq_iff {w : Word} {d : Reg} : highDst w = d ↔ highReg d = true ∧ HasSlice w 4 (r4 d) := high_eq_iff

theorem highSrc_eq_iff {w : Word} {r : Reg} : highSrc w = r ↔ highReg r = true ∧ HasSlice w 0 (r4 r) := high_eq_iff

/-- R16..R23 in three bits (R129). -/
theorem mul_eq_iff {x : BitVec 3} {d : Reg} : Fin.ofNat 32 (16 + x.toNat) = d ↔ mulReg d = true ∧ x = r3 d := by
  have hx := x.isLt
  simp only [Fin.ext_iff, Fin.val_ofNat, mulReg, Bool.and_eq_true, decide_eq_true_eq, r3, ← BitVec.toNat_inj,
    BitVec.toNat_ofNat]
  omega

theorem mulDst_eq_iff {w : Word} {d : Reg} : mulDst w = d ↔ mulReg d = true ∧ HasSlice w 4 (r3 d) := mul_eq_iff

theorem mulSrc_eq_iff {w : Word} {r : Reg} : mulSrc w = r ↔ mulReg r = true ∧ HasSlice w 0 (r3 r) := mul_eq_iff

/-- The even registers in four bits (R129). -/
theorem pair_eq_iff {x : BitVec 4} {d : Reg} : Fin.ofNat 32 (2 * x.toNat) = d ↔ evenReg d = true ∧ x = pair4 d := by
  have hx := x.isLt
  simp only [Fin.ext_iff, Fin.val_ofNat, evenReg, beq_iff_eq, pair4, ← BitVec.toNat_inj, BitVec.toNat_ofNat]
  omega

theorem pairDst_eq_iff {w : Word} {d : Reg} : pairDst w = d ↔ evenReg d = true ∧ HasSlice w 4 (pair4 d) := pair_eq_iff

theorem pairSrc_eq_iff {w : Word} {r : Reg} : pairSrc w = r ↔ evenReg r = true ∧ HasSlice w 0 (pair4 r) := pair_eq_iff

/-- R24, R26, R28, R30 in two bits (R128). -/
theorem iwDst_eq_iff {w : Word} {d : Reg} :
    iwDst w = d ↔ iwReg d = true ∧ HasSlice w 4 (BitVec.ofNat 2 ((d.val - 24) / 2)) := by
  have hx := (w.extractLsb' 4 2).isLt
  simp only [HasSlice, iwDst, Fin.ext_iff, Fin.val_ofNat, iwReg, Bool.and_eq_true, decide_eq_true_eq, beq_iff_eq,
    ← BitVec.toNat_inj, BitVec.toNat_ofNat]
  omega

theorem iwConst_eq_iff {w : Word} {k : BitVec 6} :
    iwConst w = k ↔ HasSlice w 6 (k.extractLsb' 4 2) ∧ HasSlice w 0 (k.extractLsb' 0 4) := append_eq_iff

theorem imm8_eq_iff {w : Word} {k : Byte} :
    imm8 w = k ↔ HasSlice w 8 (k.extractLsb' 4 4) ∧ HasSlice w 0 (k.extractLsb' 0 4) := append_eq_iff

theorem disp_eq_iff {w : Word} {q : BitVec 6} :
    disp w = q ↔ HasSlice w 13 (q.extractLsb' 5 1) ∧ HasSlice w 10 (q.extractLsb' 3 2) ∧
      HasSlice w 0 (q.extractLsb' 0 3) := by
  unfold disp HasSlice
  rw [append_eq_iff, append_eq_iff, extractLsb'_extractLsb' _ (by omega), extractLsb'_extractLsb' _ (by omega),
    and_assoc]

theorem io6_eq_iff {w : Word} {a : BitVec 6} :
    io6 w = a ↔ HasSlice w 9 (a.extractLsb' 4 2) ∧ HasSlice w 0 (a.extractLsb' 0 4) := append_eq_iff

theorem io5_eq_iff {w : Word} {a : BitVec 5} : io5 w = a ↔ HasSlice w 3 a := .rfl

theorem bit3_eq_iff {w : Word} {b : Fin 8} : bit3 w = b ↔ HasSlice w 0 (b3 b) := ofNat_toNat_eq_iff rfl

theorem sregBit_eq_iff {w : Word} {s : Fin 8} : sregBit w = s ↔ HasSlice w 4 (b3 s) := ofNat_toNat_eq_iff rfl

theorem off7_eq_iff {w : Word} {k : BitVec 7} : off7 w = k ↔ HasSlice w 3 k := .rfl

theorem off12_eq_iff {w : Word} {k : BitVec 12} : off12 w = k ↔ HasSlice w 0 k := .rfl

theorem addr22_eq_iff {w1 w2 : Word} {k : BitVec 22} :
    addr22 w1 w2 = k ↔
      HasSlice w1 4 (k.extractLsb' 17 5) ∧ HasSlice w1 0 (k.extractLsb' 16 1) ∧ k.extractLsb' 0 16 = w2 := by
  unfold addr22 HasSlice
  rw [append_eq_iff, append_eq_iff, extractLsb'_extractLsb' _ (by omega), extractLsb'_extractLsb' _ (by omega),
    and_assoc, eq_comm (a := w2)]

/-! ### The formats

A row of a format fixes the bits that the format's word has with every operand bit 0. A word with those bits and these
operands is the format's word of them. -/

@[simp] theorem r5_zero : r5 0 = 0 := rfl

@[simp] theorem r4_sixteen : r4 16 = 0 := rfl

@[simp] theorem r3_sixteen : r3 16 = 0 := rfl

@[simp] theorem pair4_zero : pair4 0 = 0 := rfl

@[simp] theorem b3_zero : b3 0 = 0 := rfl

theorem fRR_iff (op : BitVec 6) (d r : Reg) (w : Word) :
    fRR op 0 0 = w &&& 0xFC00 ∧ reg5 w = d ∧ srcReg w = r ↔ fRR op d r = w := by
  simp (disch := decide) only [fRR, reg5_eq_iff, srcReg_eq_iff, ← hasSlice_word, hasSlice_append,
    hasSlice_and_of_ones, hasSlice_and_of_zero]
  simp [and_left_comm, and_comm]

theorem fRK_iff (op : BitVec 4) (d : Reg) (k : Byte) (w : Word) :
    fRK op 16 0 = w &&& 0xF000 ∧ highDst w = d ∧ imm8 w = k ↔ highReg d = true ∧ fRK op d k = w := by
  simp (disch := decide) only [fRK, highDst_eq_iff, imm8_eq_iff, ← hasSlice_word, hasSlice_append,
    hasSlice_and_of_ones, hasSlice_and_of_zero]
  simp [and_assoc, and_left_comm, and_comm]

theorem fR1_iff (op : BitVec 4) (d : Reg) (w : Word) :
    fR1 op 0 = w &&& 0xFE0F ∧ reg5 w = d ↔ fR1 op d = w := by
  simp (disch := decide) only [fR1, reg5_eq_iff, ← hasSlice_word, hasSlice_append,
    hasSlice_and_of_ones, hasSlice_and_of_zero]
  simp [and_assoc, and_comm]

theorem fLDST_iff (s : BitVec 1) (d : Reg) (op : BitVec 4) (w : Word) :
    fLDST s 0 op = w &&& 0xFE0F ∧ reg5 w = d ↔ fLDST s d op = w := by
  simp (disch := decide) only [fLDST, reg5_eq_iff, ← hasSlice_word, hasSlice_append,
    hasSlice_and_of_ones, hasSlice_and_of_zero]
  simp [and_assoc, and_comm]

theorem fIW_iff (op : BitVec 1) (d : Reg) (k : BitVec 6) (w : Word) :
    fIW op 24 0 = w &&& 0xFF00 ∧ iwDst w = d ∧ iwConst w = k ↔ iwReg d = true ∧ fIW op d k = w := by
  simp (disch := decide) only [fIW, iwDst_eq_iff, iwConst_eq_iff, ← hasSlice_word, hasSlice_append,
    hasSlice_and_of_ones, hasSlice_and_of_zero]
  simp [and_assoc, and_left_comm, and_comm]

theorem fMOVW_iff (d r : Reg) (w : Word) :
    fMOVW 0 0 = w &&& 0xFF00 ∧ pairDst w = d ∧ pairSrc w = r ↔ (evenReg d && evenReg r) = true ∧ fMOVW d r = w := by
  simp (disch := decide) only [fMOVW, pairDst_eq_iff, pairSrc_eq_iff, ← hasSlice_word, hasSlice_append,
    hasSlice_and_of_ones, hasSlice_and_of_zero]
  simp [and_assoc, and_left_comm, and_comm]

theorem fMULS_iff (d r : Reg) (w : Word) :
    fMULS 16 16 = w &&& 0xFF00 ∧ highDst w = d ∧ highSrc w = r ↔ (highReg d && highReg r) = true ∧ fMULS d r = w := by
  simp (disch := decide) only [fMULS, highDst_eq_iff, highSrc_eq_iff, ← hasSlice_word, hasSlice_append,
    hasSlice_and_of_ones, hasSlice_and_of_zero]
  simp [and_assoc, and_left_comm, and_comm]

theorem fMUL3_iff (a b : BitVec 1) (d r : Reg) (w : Word) :
    fMUL3 a b 16 16 = w &&& 0xFF88 ∧ mulDst w = d ∧ mulSrc w = r ↔
      (mulReg d && mulReg r) = true ∧ fMUL3 a b d r = w := by
  simp (disch := decide) only [fMUL3, mulDst_eq_iff, mulSrc_eq_iff, ← hasSlice_word, hasSlice_append,
    hasSlice_and_of_ones, hasSlice_and_of_zero]
  simp [and_assoc, and_left_comm, and_comm]

theorem fLDDQ_iff (s y : BitVec 1) (d : Reg) (q : BitVec 6) (w : Word) :
    fLDDQ s y 0 0 = w &&& 0xD208 ∧ reg5 w = d ∧ disp w = q ↔ fLDDQ s y d q = w := by
  simp (disch := decide) only [fLDDQ, reg5_eq_iff, disp_eq_iff, ← hasSlice_word, hasSlice_append,
    hasSlice_and_of_ones, hasSlice_and_of_zero]
  simp [and_assoc, and_left_comm, and_comm]

/-- The row of no displacement fixes the displacement bits as well. -/
theorem fLDDQ_zero_iff (s y : BitVec 1) (d : Reg) (w : Word) :
    fLDDQ s y 0 0 = w &&& 0xFE0F ∧ reg5 w = d ↔ fLDDQ s y d 0 = w := by
  simp (disch := decide) only [fLDDQ, reg5_eq_iff, ← hasSlice_word, hasSlice_append,
    hasSlice_and_of_ones, hasSlice_and_of_zero]
  simp [and_assoc, and_comm]

theorem fIO_iff (out : BitVec 1) (d : Reg) (a : BitVec 6) (w : Word) :
    fIO out 0 0 = w &&& 0xF800 ∧ reg5 w = d ∧ io6 w = a ↔ fIO out d a = w := by
  simp (disch := decide) only [fIO, reg5_eq_iff, io6_eq_iff, ← hasSlice_word, hasSlice_append,
    hasSlice_and_of_ones, hasSlice_and_of_zero]
  simp [and_assoc, and_left_comm, and_comm]

theorem fIOB_iff (op : BitVec 2) (a : BitVec 5) (b : Fin 8) (w : Word) :
    fIOB op 0 0 = w &&& 0xFF00 ∧ io5 w = a ∧ bit3 w = b ↔ fIOB op a b = w := by
  simp (disch := decide) only [fIOB, io5_eq_iff, bit3_eq_iff, ← hasSlice_word, hasSlice_append,
    hasSlice_and_of_ones, hasSlice_and_of_zero]
  simp [and_assoc, and_left_comm, and_comm]

theorem fBR_iff (op : BitVec 1) (s : Fin 8) (k : BitVec 7) (w : Word) :
    fBR op 0 0 = w &&& 0xFC00 ∧ bit3 w = s ∧ off7 w = k ↔ fBR op s k = w := by
  simp (disch := decide) only [fBR, bit3_eq_iff, off7_eq_iff, ← hasSlice_word, hasSlice_append,
    hasSlice_and_of_ones, hasSlice_and_of_zero]
  simp [and_assoc, and_left_comm, and_comm]

theorem fRB_iff (op : BitVec 2) (d : Reg) (b : Fin 8) (w : Word) :
    fRB op 0 0 = w &&& 0xFE08 ∧ reg5 w = d ∧ bit3 w = b ↔ fRB op d b = w := by
  simp (disch := decide) only [fRB, reg5_eq_iff, bit3_eq_iff, ← hasSlice_word, hasSlice_append,
    hasSlice_and_of_ones, hasSlice_and_of_zero]
  simp [and_assoc, and_left_comm, and_comm]

theorem fREL_iff (op : BitVec 1) (k : BitVec 12) (w : Word) :
    fREL op 0 = w &&& 0xF000 ∧ off12 w = k ↔ fREL op k = w := by
  simp (disch := decide) only [fREL, off12_eq_iff, ← hasSlice_word, hasSlice_append,
    hasSlice_and_of_ones, hasSlice_and_of_zero]
  simp [and_comm]

theorem fS_iff (op : BitVec 1) (s : Fin 8) (w : Word) :
    fS op 0 = w &&& 0xFF8F ∧ sregBit w = s ↔ fS op s = w := by
  simp (disch := decide) only [fS, sregBit_eq_iff, ← hasSlice_word, hasSlice_append,
    hasSlice_and_of_ones, hasSlice_and_of_zero]
  simp [and_assoc, and_comm]

theorem fJC_iff (op : BitVec 1) (k : BitVec 22) (w w2 : Word) :
    fJC op 0 = w &&& 0xFE0E ∧ addr22 w w2 = k ↔ fJC op k = w ∧ k.extractLsb' 0 16 = w2 := by
  simp (disch := decide) only [fJC, addr22_eq_iff, ← hasSlice_word, hasSlice_append,
    hasSlice_and_of_ones, hasSlice_and_of_zero]
  simp [and_assoc, and_left_comm, and_comm]

end Sys2Proof
end

section
/-! SUPPORT. Each instruction has a row of the opcode table, which reads it from exactly the words that encode it (R123,
R139): a lemma for each format, then the constructors by format. -/

namespace Sys2Proof

open Decode Encode
open Instr (highReg mulReg iwReg evenReg)

/-- The two words, or the first alone, are the instruction's encoding. -/
def Encodes (i : Instr) (w1 w2 : Word) : Prop := encode i = if i.words = 2 then [w1, w2] else [w1]

/-- The row reads the instruction from exactly the words that encode it, if its operands are admitted. -/
def Decode.Row.Codes (row : Row) (i : Instr) : Prop :=
  ∀ w1 w2, row.matches w1 = true ∧ row.build w1 w2 = i ↔ i.WellFormed = true ∧ Encodes i w1 w2

/-- A one-word instruction with its word, its operands being admitted under `adm`. -/
structure OneWord (i : Instr) (adm : Bool) (w : Word) : Prop where
  words : i.words = 1
  wellFormed : i.WellFormed = adm
  encode : encode i = [w]

/-- A two-word instruction, which admits all operands, with its words. -/
structure TwoWord (i : Instr) (w1 w2 : Word) : Prop where
  words : i.words = 2
  wellFormed : i.WellFormed = true
  encode : encode i = [w1, w2]

theorem OneWord.encodes_iff {i : Instr} {adm : Bool} {w : Word} (h : OneWord i adm w) (w1 w2 : Word) :
    i.WellFormed = true ∧ Encodes i w1 w2 ↔ adm = true ∧ w = w1 := by
  simp [Encodes, h.words, h.wellFormed, h.encode]

theorem TwoWord.encodes_iff {i : Instr} {a b : Word} (h : TwoWord i a b) (w1 w2 : Word) :
    i.WellFormed = true ∧ Encodes i w1 w2 ↔ a = w1 ∧ b = w2 := by
  simp [Encodes, h.words, h.wellFormed, h.encode]

theorem Decode.Row.matches_iff {m p : Word} {build : Word → Word → Instr} {c : Word → Bool} {w : Word} :
    Row.matches ⟨m.toNat, p.toNat, build, c⟩ w = true ↔ p = w &&& m ∧ c w = true := by
  rw [Row.matches, Bool.and_eq_true, Nat.beq_eq, eq_comm, ← BitVec.toNat_inj, BitVec.toNat_and]
  rfl

/-- A row codes the instructions that `mk` builds from its fields when its fixed bits, its constraint and the fields
pick out the words that encode them. -/
theorem Decode.Row.codes_of {α : Type} {mk : α → Instr} {fields : Word → Word → α} {m p : Word} {c : Word → Bool}
    (h : ∀ x w1 w2, (p = w1 &&& m ∧ c w1 = true) ∧ fields w1 w2 = x ↔
      (mk x).WellFormed = true ∧ Encodes (mk x) w1 w2) (x : α) :
    Row.Codes ⟨m.toNat, p.toNat, fun w1 w2 => mk (fields w1 w2), c⟩ (mk x) := by
  intro w1 w2
  rw [Row.matches_iff]
  constructor
  · rintro ⟨hm, hx⟩
    rw [← hx]
    exact (h _ w1 w2).mp ⟨hm, rfl⟩
  · intro hx
    obtain ⟨hm, rfl⟩ := (h x w1 w2).mpr hx
    exact ⟨hm, rfl⟩

/-- A row of one field, whose constraint is what the field admits. -/
theorem Decode.Row.codes_of_field {α : Type} {mk : α → Instr} {adm : α → Bool} {word : α → Word} {field : Word → α}
    {m p : Word} {c : Word → Bool} (h : ∀ x w, p = w &&& m ∧ field w = x ↔ word x = w)
    (hmk : ∀ x, OneWord (mk x) (adm x) (word x)) (hc : ∀ w, c w = adm (field w)) (x : α) :
    Row.Codes ⟨m.toNat, p.toNat, fun w _ => mk (field w), c⟩ (mk x) := by
  refine Row.codes_of (fields := fun w _ => field w) (fun x w _ => ?_) x
  rw [(hmk x).encodes_iff, ← h, hc]
  constructor
  · rintro ⟨⟨hp, hadm⟩, rfl⟩
    exact ⟨hadm, hp, rfl⟩
  · rintro ⟨hadm, hp, rfl⟩
    exact ⟨⟨hp, hadm⟩, rfl⟩

/-- A row of two fields without a constraint: what the fields admit is in how they are read. -/
theorem Decode.Row.codes_of_fields {α β : Type} {mk : α → β → Instr} {adm : α → β → Bool} {word : α → β → Word}
    {f : Word → α} {g : Word → β} {m p : Word}
    (h : ∀ x y w, p = w &&& m ∧ f w = x ∧ g w = y ↔ adm x y = true ∧ word x y = w)
    (hmk : ∀ x y, OneWord (mk x y) (adm x y) (word x y)) (x : α) (y : β) :
    Row.Codes ⟨m.toNat, p.toNat, fun w _ => mk (f w) (g w), fun _ => true⟩ (mk x y) :=
  Row.codes_of (mk := fun z : α × β => mk z.1 z.2) (fields := fun w _ => (f w, g w))
    (fun z w _ => by simp only [(hmk z.1 z.2).encodes_iff, and_true, Prod.ext_iff, h]) (x, y)

/-! ### The formats' rows -/

theorem codes_fRR {p : Nat} {op : BitVec 6} {mk : Reg → Reg → Instr} {d r : Reg}
    (hmk : ∀ d r, OneWord (mk d r) true (fRR op d r)) (hp : p = (fRR op 0 0).toNat) :
    Row.Codes ⟨0xFC00, p, fun w _ => mk (reg5 w) (srcReg w), fun _ => true⟩ (mk d r) :=
  hp ▸ Row.codes_of_fields (m := 0xFC00) (by simp only [fRR_iff, true_and, implies_true]) hmk d r

theorem codes_fRK {p : Nat} {op : BitVec 4} {mk : Reg → Byte → Instr} {d : Reg} {k : Byte}
    (hmk : ∀ d k, OneWord (mk d k) (highReg d) (fRK op d k)) (hp : p = (fRK op 16 0).toNat) :
    Row.Codes ⟨0xF000, p, fun w _ => mk (highDst w) (imm8 w), fun _ => true⟩ (mk d k) :=
  hp ▸ Row.codes_of_fields (m := 0xF000) (fRK_iff _) hmk d k

theorem codes_fR1 {p : Nat} {op : BitVec 4} {mk : Reg → Instr} {d : Reg}
    (hmk : ∀ d, OneWord (mk d) true (fR1 op d)) (hp : p = (fR1 op 0).toNat) :
    Row.Codes ⟨0xFE0F, p, fun w _ => mk (reg5 w), fun _ => true⟩ (mk d) :=
  hp ▸ Row.codes_of_field (m := 0xFE0F) (fR1_iff _) hmk (fun _ => rfl) d

theorem codes_fIW {p : Nat} {op : BitVec 1} {mk : Reg → BitVec 6 → Instr} {d : Reg} {k : BitVec 6}
    (hmk : ∀ d k, OneWord (mk d k) (iwReg d) (fIW op d k)) (hp : p = (fIW op 24 0).toNat) :
    Row.Codes ⟨0xFF00, p, fun w _ => mk (iwDst w) (iwConst w), fun _ => true⟩ (mk d k) :=
  hp ▸ Row.codes_of_fields (m := 0xFF00) (fIW_iff _) hmk d k

theorem codes_fMOVW {p : Nat} {mk : Reg → Reg → Instr} {d r : Reg}
    (hmk : ∀ d r, OneWord (mk d r) (evenReg d && evenReg r) (fMOVW d r)) (hp : p = (fMOVW 0 0).toNat) :
    Row.Codes ⟨0xFF00, p, fun w _ => mk (pairDst w) (pairSrc w), fun _ => true⟩ (mk d r) :=
  hp ▸ Row.codes_of_fields (m := 0xFF00) fMOVW_iff hmk d r

theorem codes_fMULS {p : Nat} {mk : Reg → Reg → Instr} {d r : Reg}
    (hmk : ∀ d r, OneWord (mk d r) (highReg d && highReg r) (fMULS d r)) (hp : p = (fMULS 16 16).toNat) :
    Row.Codes ⟨0xFF00, p, fun w _ => mk (highDst w) (highSrc w), fun _ => true⟩ (mk d r) :=
  hp ▸ Row.codes_of_fields (m := 0xFF00) fMULS_iff hmk d r

theorem codes_fMUL3 {p : Nat} {a b : BitVec 1} {mk : Reg → Reg → Instr} {d r : Reg}
    (hmk : ∀ d r, OneWord (mk d r) (mulReg d && mulReg r) (fMUL3 a b d r)) (hp : p = (fMUL3 a b 16 16).toNat) :
    Row.Codes ⟨0xFF88, p, fun w _ => mk (mulDst w) (mulSrc w), fun _ => true⟩ (mk d r) :=
  hp ▸ Row.codes_of_fields (m := 0xFF88) (fMUL3_iff _ _) hmk d r

theorem codes_fIO {p : Nat} {out : BitVec 1} {mk : Reg → BitVec 6 → Instr} {d : Reg} {a : BitVec 6}
    (hmk : ∀ d a, OneWord (mk d a) true (fIO out d a)) (hp : p = (fIO out 0 0).toNat) :
    Row.Codes ⟨0xF800, p, fun w _ => mk (reg5 w) (io6 w), fun _ => true⟩ (mk d a) :=
  hp ▸ Row.codes_of_fields (m := 0xF800) (by simp only [fIO_iff, true_and, implies_true]) hmk d a

theorem codes_fIOB {p : Nat} {op : BitVec 2} {mk : BitVec 5 → Fin 8 → Instr} {a : BitVec 5} {b : Fin 8}
    (hmk : ∀ a b, OneWord (mk a b) true (fIOB op a b)) (hp : p = (fIOB op 0 0).toNat) :
    Row.Codes ⟨0xFF00, p, fun w _ => mk (io5 w) (bit3 w), fun _ => true⟩ (mk a b) :=
  hp ▸ Row.codes_of_fields (m := 0xFF00) (by simp only [fIOB_iff, true_and, implies_true]) hmk a b

theorem codes_fBR {p : Nat} {op : BitVec 1} {mk : Fin 8 → BitVec 7 → Instr} {s : Fin 8} {k : BitVec 7}
    (hmk : ∀ s k, OneWord (mk s k) true (fBR op s k)) (hp : p = (fBR op 0 0).toNat) :
    Row.Codes ⟨0xFC00, p, fun w _ => mk (bit3 w) (off7 w), fun _ => true⟩ (mk s k) :=
  hp ▸ Row.codes_of_fields (m := 0xFC00) (by simp only [fBR_iff, true_and, implies_true]) hmk s k

theorem codes_fRB {p : Nat} {op : BitVec 2} {mk : Reg → Fin 8 → Instr} {d : Reg} {b : Fin 8}
    (hmk : ∀ d b, OneWord (mk d b) true (fRB op d b)) (hp : p = (fRB op 0 0).toNat) :
    Row.Codes ⟨0xFE08, p, fun w _ => mk (reg5 w) (bit3 w), fun _ => true⟩ (mk d b) :=
  hp ▸ Row.codes_of_fields (m := 0xFE08) (by simp only [fRB_iff, true_and, implies_true]) hmk d b

theorem codes_fREL {p : Nat} {op : BitVec 1} {mk : BitVec 12 → Instr} {k : BitVec 12}
    (hmk : ∀ k, OneWord (mk k) true (fREL op k)) (hp : p = (fREL op 0).toNat) :
    Row.Codes ⟨0xF000, p, fun w _ => mk (off12 w), fun _ => true⟩ (mk k) :=
  hp ▸ Row.codes_of_field (m := 0xF000) (fREL_iff _) hmk (fun _ => rfl) k

theorem codes_fS {p : Nat} {op : BitVec 1} {mk : Fin 8 → Instr} {s : Fin 8}
    (hmk : ∀ s, OneWord (mk s) true (fS op s)) (hp : p = (fS op 0).toNat) :
    Row.Codes ⟨0xFF8F, p, fun w _ => mk (sregBit w), fun _ => true⟩ (mk s) :=
  hp ▸ Row.codes_of_field (m := 0xFF8F) (fS_iff _) hmk (fun _ => rfl) s

theorem codes_fLDDQ_zero {p : Nat} {s y : BitVec 1} {mk : Reg → Instr} {d : Reg}
    (hmk : ∀ d, OneWord (mk d) true (fLDDQ s y d 0)) (hp : p = (fLDDQ s y 0 0).toNat) :
    Row.Codes ⟨0xFE0F, p, fun w _ => mk (reg5 w), fun _ => true⟩ (mk d) :=
  hp ▸ Row.codes_of_field (m := 0xFE0F) (fLDDQ_zero_iff _ _) hmk (fun _ => rfl) d

/-- The displacement rows leave q = 0 to the rows of no displacement (R123). -/
theorem codes_fLDDQ {p : Nat} {s y : BitVec 1} {mk : Reg → BitVec 6 → Instr} {d : Reg} {q : BitVec 6}
    (hmk : ∀ d q, OneWord (mk d q) (q != 0) (fLDDQ s y d q)) (hp : p = (fLDDQ s y 0 0).toNat) :
    Row.Codes ⟨0xD208, p, fun w _ => mk (reg5 w) (disp w), fun w => disp w != 0⟩ (mk d q) :=
  hp ▸ Row.codes_of_field (m := 0xD208) (mk := fun z : Reg × BitVec 6 => mk z.1 z.2)
    (field := fun w => (reg5 w, disp w))
    (fun z w => by rw [Prod.ext_iff, fLDDQ_iff]) (fun z => hmk z.1 z.2) (fun _ => rfl) (d, q)

/-- The rows that update a pointer admit the registers outside its pair (R141), the other rows all. -/
theorem codes_fLDST {p : Nat} {s : BitVec 1} {op : BitVec 4} {mk : Reg → Instr} {d : Reg} {adm : Reg → Bool}
    {c : Word → Bool} (hmk : ∀ d, OneWord (mk d) (adm d) (fLDST s d op)) (hp : p = (fLDST s 0 op).toNat)
    (hc : ∀ w, c w = adm (reg5 w)) : Row.Codes ⟨0xFE0F, p, fun w _ => mk (reg5 w), c⟩ (mk d) :=
  hp ▸ Row.codes_of_field (m := 0xFE0F) (fun d => fLDST_iff s d op) hmk hc d

/-- The second word is the address (R130). -/
theorem codes_fLDS {p : Nat} {s : BitVec 1} {mk : Reg → Word → Instr} {d : Reg} {k : Word}
    (hmk : ∀ d k, TwoWord (mk d k) (fLDST s d 0) k) (hp : p = (fLDST s 0 0).toNat) :
    Row.Codes ⟨0xFE0F, p, fun w w2 => mk (reg5 w) w2, fun _ => true⟩ (mk d k) :=
  hp ▸ Row.codes_of (m := 0xFE0F) (mk := fun z : Reg × Word => mk z.1 z.2) (fields := fun w w2 => (reg5 w, w2))
    (fun z w w2 => by
      simp only [(hmk z.1 z.2).encodes_iff, ← fLDST_iff s z.1 0 w, Prod.ext_iff, and_true, and_assoc,
        eq_comm (a := w2)]) (d, k)

theorem codes_fJC {p : Nat} {op : BitVec 1} {mk : BitVec 22 → Instr} {k : BitVec 22}
    (hmk : ∀ k, TwoWord (mk k) (fJC op k) (k.extractLsb' 0 16)) (hp : p = (fJC op 0).toNat) :
    Row.Codes ⟨0xFE0E, p, fun w w2 => mk (addr22 w w2), fun _ => true⟩ (mk k) :=
  hp ▸ Row.codes_of (m := 0xFE0E) (fields := addr22)
    (fun k w w2 => by simp only [(hmk k).encodes_iff, ← fJC_iff op k w, and_true]) k

/-- An instruction without operands is one word. -/
theorem codes_fixed {p : Nat} {i : Instr} {a : Word} (hi : OneWord i true a) (hp : p = a.toNat) :
    Row.Codes ⟨0xFFFF, p, fun _ _ => i, fun _ => true⟩ i :=
  hp ▸ Row.codes_of (m := 0xFFFF) (mk := fun _ : Unit => i) (fields := fun _ _ => ())
    (fun _ w _ => by
      rw [hi.encodes_iff, show w &&& 0xFFFF = w from BitVec.and_allOnes]
      simp) ()

/-- Each constructor has its row in the opcode table, at its own place (R139). -/
theorem exists_row_codes (i : Instr) : ∃ row, rows[i.ctorIdx]? = some row ∧ row.Codes i := by
  cases i with
  | add | adc | sub | sbc | and | or | eor | mul | cpse | cp | cpc | mov =>
    exact ⟨_, rfl, codes_fRR (fun _ _ => ⟨rfl, rfl, rfl⟩) rfl⟩
  | subi | sbci | andi | ori | cpi | ldi => exact ⟨_, rfl, codes_fRK (fun _ _ => ⟨rfl, rfl, rfl⟩) rfl⟩
  | com | neg | inc | dec | lsr | ror | asr | swap => exact ⟨_, rfl, codes_fR1 (fun _ => ⟨rfl, rfl, rfl⟩) rfl⟩
  | adiw | sbiw => exact ⟨_, rfl, codes_fIW (fun _ _ => ⟨rfl, rfl, rfl⟩) rfl⟩
  | movw => exact ⟨_, rfl, codes_fMOVW (fun _ _ => ⟨rfl, rfl, rfl⟩) rfl⟩
  | muls => exact ⟨_, rfl, codes_fMULS (fun _ _ => ⟨rfl, rfl, rfl⟩) rfl⟩
  | mulsu | fmul | fmuls | fmulsu => exact ⟨_, rfl, codes_fMUL3 (fun _ _ => ⟨rfl, rfl, rfl⟩) rfl⟩
  | rjmp | rcall => exact ⟨_, rfl, codes_fREL (fun _ => ⟨rfl, rfl, rfl⟩) rfl⟩
  | jmp | call => exact ⟨_, rfl, codes_fJC (fun _ => ⟨rfl, rfl, rfl⟩) rfl⟩
  | sbrc | sbrs | bst | bld => exact ⟨_, rfl, codes_fRB (fun _ _ => ⟨rfl, rfl, rfl⟩) rfl⟩
  | sbic | sbis | sbi | cbi => exact ⟨_, rfl, codes_fIOB (fun _ _ => ⟨rfl, rfl, rfl⟩) rfl⟩
  | brbs | brbc => exact ⟨_, rfl, codes_fBR (fun _ _ => ⟨rfl, rfl, rfl⟩) rfl⟩
  | lds => exact ⟨_, rfl, codes_fLDS (fun _ _ => ⟨rfl, rfl, rfl⟩) rfl⟩
  | sts => exact ⟨_, rfl, codes_fLDS (mk := fun r k => .sts k r) (fun _ _ => ⟨rfl, rfl, rfl⟩) rfl⟩
  | ldX | ldXInc | ldDecX | ldYInc | ldDecY | ldZInc | ldDecZ | stX | stXInc | stDecX | stYInc | stDecY | stZInc
  | stDecZ | lpmZ | lpmZInc | elpmZ | elpmZInc | push | pop =>
    exact ⟨_, rfl, codes_fLDST (fun _ => ⟨rfl, rfl, rfl⟩) rfl fun _ => rfl⟩
  | ldY | ldZ | stY | stZ => exact ⟨_, rfl, codes_fLDDQ_zero (fun _ => ⟨rfl, rfl, rfl⟩) rfl⟩
  | lddY | lddZ => exact ⟨_, rfl, codes_fLDDQ (fun _ _ => ⟨rfl, rfl, rfl⟩) rfl⟩
  | stdY => exact ⟨_, rfl, codes_fLDDQ (mk := fun r q => .stdY q r) (fun _ _ => ⟨rfl, rfl, rfl⟩) rfl⟩
  | stdZ => exact ⟨_, rfl, codes_fLDDQ (mk := fun r q => .stdZ q r) (fun _ _ => ⟨rfl, rfl, rfl⟩) rfl⟩
  | ioIn => exact ⟨_, rfl, codes_fIO (fun _ _ => ⟨rfl, rfl, rfl⟩) rfl⟩
  | ioOut => exact ⟨_, rfl, codes_fIO (mk := fun r a => .ioOut a r) (fun _ _ => ⟨rfl, rfl, rfl⟩) rfl⟩
  | bset | bclr => exact ⟨_, rfl, codes_fS (fun _ => ⟨rfl, rfl, rfl⟩) rfl⟩
  | ijmp | eijmp | icall | eicall | ret | reti | lpm | elpm | spm | nop | sleep | wdr | brk =>
    exact ⟨_, rfl, codes_fixed ⟨rfl, rfl, rfl⟩ rfl⟩

end Sys2Proof
end

section
/-! SUPPORT. The opcode table as a whole: its order, that no word matches two rows, and so what decodes to what. -/

namespace Sys2Proof

open Decode

/-- The table's order is the constructors' (R139). -/
theorem map_ctorIdx_rows (w1 w2 : Word) : rows.map (fun row => (row.build w1 w2).ctorIdx) = List.range 95 := by
  have harith : arithRows.map (fun row => (row.build w1 w2).ctorIdx) = List.range' 0 23 := rfl
  have hbranch : branchRows.map (fun row => (row.build w1 w2).ctorIdx) = List.range' 23 20 := rfl
  have hload : loadRows.map (fun row => (row.build w1 w2).ctorIdx) = List.range' 43 15 := rfl
  have hstore : storeRows.map (fun row => (row.build w1 w2).ctorIdx) = List.range' 58 12 := rfl
  have hother : otherTransferRows.map (fun row => (row.build w1 w2).ctorIdx) = List.range' 70 11 := rfl
  have hbit : bitRows.map (fun row => (row.build w1 w2).ctorIdx) = List.range' 81 14 := rfl
  simp only [rows, List.map_append, harith, hbranch, hload, hstore, hother, hbit]
  decide

theorem getElem?_ctorIdx_build {row : Row} (h : row ∈ rows) (w1 w2 : Word) :
    rows[(row.build w1 w2).ctorIdx]? = some row := by
  obtain ⟨k, hk, rfl⟩ := List.getElem_of_mem h
  have hidx : (rows.map fun row => (row.build w1 w2).ctorIdx)[k]? = some (rows[k].build w1 w2).ctorIdx := by
    rw [List.getElem?_map, List.getElem?_eq_getElem hk, Option.map_some]
  rw [map_ctorIdx_rows, List.getElem?_range (by exact hk), Option.some_inj] at hidx
  rw [← hidx, List.getElem?_eq_getElem hk]

/-! ### Fixed bits -/

/-- The fixed bits of a row: its mask and its pattern. -/
def Decode.Row.opcode (row : Row) : Nat × Nat := (row.mask, row.pattern)

/-- The word has these fixed bits. -/
def HasOpcode (w : Word) (c : Nat × Nat) : Prop := w.toNat &&& c.1 = c.2

/-- Two opcodes that differ on a bit both fix. -/
def apart (c c' : Nat × Nat) : Bool := c.2 &&& c'.1 != c'.2 &&& c.1

theorem apart_eq_false {c c' : Nat × Nat} {w : Word} (hc : HasOpcode w c) (hc' : HasOpcode w c') :
    apart c c' = false := by
  unfold HasOpcode at hc hc'
  rw [apart, ← hc, ← hc', Nat.and_right_comm, bne_self_eq_false]

theorem Decode.Row.matches_iff_hasOpcode {row : Row} {w : Word} :
    row.matches w = true ↔ HasOpcode w row.opcode ∧ row.constraint w = true := by
  rw [Row.matches, Bool.and_eq_true, Nat.beq_eq]
  rfl

/-! ### No word matches two rows -/

theorem disp_eq_zero_iff {w : Word} : disp w = 0 ↔ w &&& 0x2C07 = 0 := by
  rw [disp_eq_iff, eq_comm (a := _ &&& _), ← hasSlice_word,
    show (0 : Word) = 0#2 ++ 0#1 ++ 0#1 ++ 0#2 ++ 0#7 ++ 0#3 from rfl]
  simp (disch := decide) only [hasSlice_append, hasSlice_and_of_ones, hasSlice_and_of_zero]
  simp [and_assoc]

/-- The opcode fixes every bit of the displacement at 0. -/
def noDisp (c : Nat × Nat) : Bool := c.1 &&& 0x2C07 == 0x2C07 && c.2 &&& 0x2C07 == 0

theorem disp_eq_zero_of_noDisp {c : Nat × Nat} {w : Word} (hc : noDisp c = true) (hw : HasOpcode w c) : disp w = 0 := by
  simp only [noDisp, Bool.and_eq_true, beq_iff_eq] at hc
  obtain ⟨hmask, hpattern⟩ := hc
  rw [disp_eq_zero_iff, ← BitVec.toNat_inj, BitVec.toNat_and]
  calc w.toNat &&& 0x2C07 = w.toNat &&& (c.1 &&& 0x2C07) := by rw [hmask]
    _ = c.2 &&& 0x2C07 := by rw [← Nat.land_assoc, hw]
    _ = 0 := hpattern

/-- The four displacement rows, LDD and STD, ask for a displacement. -/
theorem map_constraint_filter_mask :
    (rows.filter fun row => row.mask == 0xD208).map Row.constraint = List.replicate 4 fun w => disp w != 0 := rfl

theorem constraint_of_mask {row : Row} (hrow : row ∈ rows) (hmask : row.mask = 0xD208) :
    row.constraint = fun w => disp w != 0 := by
  refine List.eq_of_mem_replicate (n := 4) ?_
  rw [← map_constraint_filter_mask]
  exact List.mem_map_of_mem (List.mem_filter.mpr ⟨hrow, beq_iff_eq.mpr hmask⟩)

/-- No word matches both rows, the second with its constraint: they are apart, or the second is a displacement row and
the first fixes the displacement at 0. -/
def Decode.Row.excludes (r q : Row) : Bool :=
  apart r.opcode q.opcode || noDisp r.opcode && q.mask == 0xD208

theorem Decode.Row.matches_eq_false_of_excludes {r q : Row} {w : Word} (hq : q ∈ rows) (h : r.excludes q = true)
    (hqm : q.matches w = true) : r.matches w = false := by
  refine Bool.eq_false_iff.mpr fun hrm => ?_
  obtain ⟨hqw, hqc⟩ := Row.matches_iff_hasOpcode.mp hqm
  obtain ⟨hrw, -⟩ := Row.matches_iff_hasOpcode.mp hrm
  rw [excludes, apart_eq_false hrw hqw, Bool.false_or, Bool.and_eq_true, beq_iff_eq] at h
  obtain ⟨hr, hmask⟩ := h
  simp [constraint_of_mask hq hmask, disp_eq_zero_of_noDisp hr hrw] at hqc

theorem rows_pairwise_excludes : rows.Pairwise fun r q => r.excludes q = true := by
  simp only [rows, List.pairwise_append, List.forall_mem_append]
  and_intros
  all_goals decide

/-- A word matches one row at most, so the order of the table decides nothing. -/
theorem rows_pairwise_not_matches (w : Word) :
    rows.Pairwise fun r q => q.matches w = true → r.matches w = false :=
  rows_pairwise_excludes.imp_of_mem fun _ hq h => Row.matches_eq_false_of_excludes hq h

/-! ### Decoding and encoding agree -/

/-- The first row a word matches is the only one. -/
theorem decodeWords_eq_some_iff_exists_row {w1 w2 : Word} {i : Instr} :
    decodeWords w1 w2 = some i ↔ ∃ row ∈ rows, row.matches w1 = true ∧ row.build w1 w2 = i := by
  rw [decodeWords, Option.map_eq_some_iff]
  constructor
  · rintro ⟨row, hrow, hbuild⟩
    exact ⟨row, List.mem_of_find?_eq_some hrow, List.find?_some (p := fun row : Row => row.matches w1) hrow, hbuild⟩
  · rintro ⟨row, hrow, hm, hbuild⟩
    obtain ⟨before, after, hsplit⟩ := List.append_of_mem hrow
    have hpair := rows_pairwise_not_matches w1
    rw [hsplit, List.pairwise_append] at hpair
    obtain ⟨-, -, hbefore⟩ := hpair
    refine ⟨row, List.find?_eq_some_iff_append.mpr ⟨hm, before, after, hsplit, fun r hr => ?_⟩, hbuild⟩
    rw [hbefore r hr row List.mem_cons_self hm]
    rfl

/-- A pair of words decodes to an instruction exactly when it encodes it, with operands the encoding admits (R123). -/
theorem decodeWords_eq_some_iff {w1 w2 : Word} {i : Instr} :
    decodeWords w1 w2 = some i ↔ i.WellFormed = true ∧ Encodes i w1 w2 := by
  obtain ⟨row, hrow, hcodes⟩ := exists_row_codes i
  rw [← hcodes w1 w2, decodeWords_eq_some_iff_exists_row]
  constructor
  · rintro ⟨q, hq, hm, rfl⟩
    cases hrow.symm.trans (getElem?_ctorIdx_build hq w1 w2)
    exact ⟨hm, rfl⟩
  · exact fun h => ⟨row, List.mem_of_getElem? hrow, h⟩

end Sys2Proof
end

section
/-! SUPPORT. The bytes of an instruction in program memory (R100) and its length (R120, R121). -/

namespace Sys2Proof

open Decode

/-- The opcodes of the two-word instructions (R121). -/
def twoWordOpcodes : List (Nat × Nat) := [(0xFE0E, 0x940C), (0xFE0E, 0x940E), (0xFE0F, 0x9000), (0xFE0F, 0x9200)]

theorem isTwoWord_iff {w : Word} : isTwoWord w = true ↔ ∃ c ∈ twoWordOpcodes, HasOpcode w c := by
  simp only [isTwoWord, Bool.or_eq_true, Nat.beq_eq, twoWordOpcodes, List.exists_mem_cons_iff, List.not_mem_nil,
    false_and, exists_false, or_false, or_assoc]
  rfl

theorem eq_or_apart_twoWordOpcodes :
    ∀ row ∈ rows, ∀ c ∈ twoWordOpcodes, c = row.opcode ∨ apart row.opcode c = true := by
  simp only [rows, List.forall_mem_append]
  and_intros
  all_goals decide

theorem isTwoWord_iff_of_matches {row : Row} {w : Word} (hrow : row ∈ rows) (hm : row.matches w = true) :
    isTwoWord w = true ↔ row.opcode ∈ twoWordOpcodes := by
  obtain ⟨hw, -⟩ := Row.matches_iff_hasOpcode.mp hm
  rw [isTwoWord_iff]
  constructor
  · rintro ⟨c, hc, hcw⟩
    obtain rfl | hapart := eq_or_apart_twoWordOpcodes row hrow c hc
    · exact hc
    · rw [apart_eq_false hw hcw] at hapart
      cases hapart
  · exact fun h => ⟨_, h, hw⟩

/-- The rows of the two-word instructions are those of the two-word opcodes (R120, R121). -/
theorem map_twoWord_getElem? (i : Instr) :
    rows[i.ctorIdx]?.map (fun row => decide (row.opcode ∈ twoWordOpcodes)) = some (decide (i.words = 2)) := by
  cases i <;> rfl

theorem isTwoWord_iff_words_of_decodeWords {w1 w2 : Word} {i : Instr} (h : decodeWords w1 w2 = some i) :
    isTwoWord w1 = true ↔ i.words = 2 := by
  obtain ⟨row, hrow, hm, rfl⟩ := decodeWords_eq_some_iff_exists_row.mp h
  have hidx := map_twoWord_getElem? (row.build w1 w2)
  rw [getElem?_ctorIdx_build hrow, Option.map_some, Option.some_inj, decide_eq_decide] at hidx
  rw [isTwoWord_iff_of_matches hrow hm, hidx]

theorem length_encode (i : Instr) : (encode i).length = i.words := by
  cases i <;> rfl

theorem words_eq (i : Instr) : i.words = 1 ∨ i.words = 2 := by
  cases i <;> simp [Instr.words]

theorem wordOfBytes_bytes (w : Word) : wordOfBytes (w.extractLsb' 0 8) (w.extractLsb' 8 8) = w :=
  BitVec.extractLsb'_append_extractLsb'

theorem decode_one_word {w : Word} {i : Instr} (hw : isTwoWord w = false) (hi : decodeWords w 0 = some i)
    (rest : List Byte) : decode (bytesOfWord w ++ rest) = .ok (i, rest) := by
  simp only [decode, bytesOfWord, List.cons_append, List.nil_append, wordOfBytes_bytes, hw, hi, Bool.false_eq_true,
    if_false]

theorem decode_two_words {w1 w2 : Word} {i : Instr} (hw : isTwoWord w1 = true) (hi : decodeWords w1 w2 = some i)
    (rest : List Byte) : decode (bytesOfWord w1 ++ bytesOfWord w2 ++ rest) = .ok (i, rest) := by
  simp [decode, bytesOfWord, wordOfBytes_bytes, hw, hi]

end Sys2Proof
end

section
/-! The statements of 30_encoding.md. -/

namespace Sys2Proof.Machine

/-- Settles O41: the words of a well-formed instruction decode to it, and their first tells how many they are. -/
theorem decodeOfEncode : Obligations.DecodeOfEncode := by
  unfold Obligations.DecodeOfEncode
  intro i rest hwf
  have hdecode (w1 w2 : Word) (h : Encodes i w1 w2) : decodeWords w1 w2 = some i :=
    decodeWords_eq_some_iff.mpr ⟨hwf, h⟩
  obtain hwords | hwords := words_eq i
  · obtain ⟨w, hw⟩ := List.length_eq_one_iff.mp ((length_encode i).trans hwords)
    have hi := hdecode w 0 (by simp [Encodes, hw, hwords])
    have htwo : isTwoWord w = false := by
      rw [Bool.eq_false_iff, ne_eq, isTwoWord_iff_words_of_decodeWords hi, hwords]
      decide
    simpa [encodeBytes, hw] using decode_one_word htwo hi rest
  · obtain ⟨w1, w2, hw⟩ := List.length_eq_two.mp ((length_encode i).trans hwords)
    have hi := hdecode w1 w2 (by simp [Encodes, hw, hwords])
    simpa [encodeBytes, hw] using decode_two_words ((isTwoWord_iff_words_of_decodeWords hi).mpr hwords) hi rest

/-- Settles O42: a row reads an instruction from the words that encode it and from no others. -/
theorem encodeOfDecode : Obligations.EncodeOfDecode := by
  unfold Obligations.EncodeOfDecode
  exact fun w1 w2 i h => decodeWords_eq_some_iff.mp h

/-- Settles O43: the table read on each word. -/
theorem decodeSamples : Obligations.DecodeSamples := by
  unfold Obligations.DecodeSamples
  decide

end Sys2Proof.Machine
end

section
/-! SUPPORT. The flags of 40_arith_logic.md (R200, R201) as facts about numbers: the tests the flag functions make of
bytes and words, the carries and the overflow of an exact sum, and those of a difference by the sum that undoes it. -/

namespace Sys2Proof.Machine

/-! ### Tests of bytes and words as numbers -/

theorem bitOf_seven (v : Byte) : bitOf v 7 = flag (128 ≤ v.toNat) :=
  (BitVec.msb_eq_getLsbD_last v).symm.trans (BitVec.msb_eq_decide v)

theorem msb_eq_flag (v : Word) : v.msb = flag (32768 ≤ v.toNat) := BitVec.msb_eq_decide v

theorem beq_eq_flag {n : Nat} (v w : BitVec n) : (v == w) = flag (v.toNat = w.toNat) := by
  rw [Bool.beq_eq_decide_eq, decide_eq_decide, BitVec.toNat_eq]

theorem beq_zero_eq_flag {n : Nat} (v : BitVec n) : (v == 0) = flag (v.toNat = 0) := by
  rw [beq_eq_flag, BitVec.ofNat_eq_ofNat, BitVec.toNat_ofNat, Nat.zero_mod]

theorem flag_and_not_eq {p q r : Prop} [Decidable p] [Decidable q] [Decidable r] (h : p ∧ ¬ q ↔ r) :
    (flag p && !flag q) = flag r := by
  rw [← decide_not, ← Bool.decide_and, decide_eq_decide]
  exact h

theorem bitOf_or (v w : Byte) (k : Nat) : bitOf (v ||| w) k = (bitOf v k || bitOf w k) := BitVec.getLsbD_or

theorem bitOf_xor (v w : Byte) (k : Nat) : bitOf (v ^^^ w) k = (bitOf v k ^^ bitOf w k) := BitVec.getLsbD_xor

/-- COM's difference from 0xFF complements each bit (R216). -/
theorem bitOf_full_sub (v : Byte) {k : Nat} (hk : k < 8) : bitOf (0xFF - v) k = !bitOf v k := by
  have hnot : 0xFF - v = ~~~v := BitVec.allOnes_sub_eq_not v
  rw [hnot, bitOf, BitVec.getLsbD_not, decide_eq_true hk, Bool.true_and]
  rfl

/-! ### Words from integers -/

theorem toNat_ofInt_word (x : Int) : ((BitVec.ofInt 16 x).toNat : Int) = x % 65536 := by
  rw [BitVec.toNat_ofInt]
  omega

theorem eq_ofInt_word {r : Word} {x : Int} (h : (r.toNat : Int) = x % 65536) : r = BitVec.ofInt 16 x := by
  apply BitVec.eq_of_toNat_eq
  rw [← Int.ofNat_inj, toNat_ofInt_word, h]

theorem msb_ofInt_word (x : Int) : (BitVec.ofInt 16 x).msb = flag (32768 ≤ x % 65536) := by
  rw [msb_eq_flag, decide_eq_decide, ← toNat_ofInt_word]
  omega

theorem ofInt_word_beq_zero (x : Int) : (BitVec.ofInt 16 x == 0) = flag (x % 65536 = 0) := by
  rw [beq_zero_eq_flag, decide_eq_decide, ← toNat_ofInt_word]
  omega

/-- The shift of the fractional multiplies doubles the product (R223). -/
theorem ofInt_word_shiftLeft_one (p : Int) : BitVec.ofInt 16 p <<< 1 = BitVec.ofInt 16 (2 * p) := by
  apply eq_ofInt_word
  have := toNat_ofInt_word p
  rw [BitVec.toNat_shiftLeft, Nat.shiftLeft_eq]
  omega

/-! ### The carry flag as a byte and as a number -/

/-- A carry as a byte. -/
def carryByte (c : Bool) : Byte := (BitVec.ofBool c).setWidth 8

theorem carryIn_eq (s : State) : s.carryIn = carryByte (bitOf s.dev.sreg 0) := by
  rw [State.carryIn, Device.carry]
  cases bitOf s.dev.sreg 0 <;> rfl

theorem carryNat_eq (s : State) : carryNat s = (bitOf s.dev.sreg 0).toNat := by
  rw [carryNat]
  cases bitOf s.dev.sreg 0 <;> rfl

/-! ### Sums and differences

A difference `r` of `a`, `b` and a borrow is given by the sum that undoes it, `a = r + b + carryByte c`. -/

section
variable {a b r : Byte} {c : Bool}

theorem toNat_of_sum (hr : r = a + b + carryByte c) :
    r.toNat = (a.toNat + b.toNat + c.toNat) % 256 ∧ c.toNat < 2 := by
  have hc := c.toNat_lt
  refine ⟨?_, hc⟩
  rw [hr, carryByte, BitVec.toNat_add, BitVec.toNat_add, BitVec.toNat_setWidth, BitVec.toNat_ofBool]
  omega

theorem toNat_of_difference (ha : a = r + b + carryByte c) :
    r.toNat = (a.toNat + 512 - b.toNat - c.toNat) % 256 := by
  obtain ⟨hsum, hc⟩ := toNat_of_sum ha
  omega

/-- R200's carry out of bit i, read off the operands and the sum, is that of the addition. -/
theorem carryAt_of_sum (hr : r = a + b + carryByte c) {i : Nat} (hi : i < 8) :
    carryAt i a b r = BitVec.carry (i + 1) a b c := by
  rw [hr, BitVec.carry_succ, carryAt, bitOf, bitOf, bitOf, carryByte, BitVec.getLsbD_add_add_bool hi]
  cases a.getLsbD i <;> cases b.getLsbD i <;> cases BitVec.carry i a b c <;> rfl

theorem halfCarry_of_sum (hr : r = a + b + carryByte c) :
    carryAt 3 a b r = flag (16 ≤ a.toNat % 16 + b.toNat % 16 + c.toNat) := carryAt_of_sum hr (by decide)

theorem carry_of_sum (hr : r = a + b + carryByte c) :
    carryAt 7 a b r = flag (256 ≤ a.toNat + b.toNat + c.toNat) := by
  rw [carryAt_of_sum hr (by decide), BitVec.carry, Nat.mod_eq_of_lt a.isLt, Nat.mod_eq_of_lt b.isLt]

theorem overflow_of_sum (hr : r = a + b + carryByte c) :
    ((bitOf a 7 && bitOf b 7 && !bitOf r 7) || (!bitOf a 7 && !bitOf b 7 && bitOf r 7)) =
      flag (a.toInt + b.toInt + c.toNat < -128 ∨ 127 < a.toInt + b.toInt + c.toNat) := by
  obtain ⟨hsum, hc⟩ := toNat_of_sum hr
  rw [Bool.eq_iff_iff]
  simp only [bitOf_seven, BitVec.toInt_eq_toNat_cond, Bool.or_eq_true, Bool.and_eq_true, Bool.not_eq_true',
    decide_eq_true_eq, decide_eq_false_iff_not]
  split_ifs <;> omega

/-- A difference's borrow is the carry of the sum that undoes it. -/
theorem borrowAt_eq_carryAt (i : Nat) (a b r : Byte) : borrowAt i a b r = carryAt i r b a := by
  rw [borrowAt, carryAt]
  cases bitOf a i <;> cases bitOf b i <;> cases bitOf r i <;> rfl

theorem halfBorrow_of_difference (ha : a = r + b + carryByte c) :
    borrowAt 3 a b r = flag (a.toNat % 16 < b.toNat % 16 + c.toNat) := by
  obtain ⟨hsum, hc⟩ := toNat_of_sum ha
  rw [borrowAt_eq_carryAt, halfCarry_of_sum ha, decide_eq_decide]
  omega

theorem borrow_of_difference (ha : a = r + b + carryByte c) :
    borrowAt 7 a b r = flag (a.toNat < b.toNat + c.toNat) := by
  obtain ⟨hsum, hc⟩ := toNat_of_sum ha
  rw [borrowAt_eq_carryAt, carry_of_sum ha, decide_eq_decide]
  omega

/-- A difference leaves the signed range just when the sum that undoes it does. -/
theorem overflow_of_difference (ha : a = r + b + carryByte c) :
    ((bitOf a 7 && !bitOf b 7 && !bitOf r 7) || (!bitOf a 7 && bitOf b 7 && bitOf r 7)) =
      flag (a.toInt - b.toInt - c.toNat < -128 ∨ 127 < a.toInt - b.toInt - c.toNat) := by
  obtain ⟨hsum, hc⟩ := toNat_of_sum ha
  have hundo : ((bitOf a 7 && !bitOf b 7 && !bitOf r 7) || (!bitOf a 7 && bitOf b 7 && bitOf r 7)) =
      ((bitOf r 7 && bitOf b 7 && !bitOf a 7) || (!bitOf r 7 && !bitOf b 7 && bitOf a 7)) := by
    cases bitOf a 7 <;> cases bitOf b 7 <;> cases bitOf r 7 <;> rfl
  rw [hundo, overflow_of_sum ha, decide_eq_decide]
  simp only [BitVec.toInt_eq_toNat_cond]
  split_ifs <;> omega

end

/-! ### What the flag functions write -/

section
variable {old : Byte} {h h' v v' n n' z z' c c' : Bool}

theorem sregIs_flagsHSVNZC (hh : h = h') (hv : v = v') (hn : n = n') (hz : z = z') (hc : c = c') :
    SregIs old (flagsHSVNZC old h v n z c) h' v' n' z' c' := by
  subst hh hv hn hz hc
  exact bitOf_flagsHSVNZC old h v n z c

theorem sregIs_flagsSVNZC (hv : v = v') (hn : n = n') (hz : z = z') (hc : c = c') :
    SregIs old (flagsSVNZC old v n z c) (bitOf old 5) v' n' z' c' := sregIs_flagsHSVNZC rfl hv hn hz hc

end

theorem subSreg_subFlagsWithZ (old : Byte) {a b r : Byte} {c : Bool} (ha : a = r + b + carryByte c) (keep : Bool) :
    SubSreg old (subFlagsWithZ old a b r (r == 0 && keep)) a b c.toNat keep := by
  rw [SubSreg, ← toNat_of_difference ha, ← beq_zero_eq_flag]
  exact sregIs_flagsHSVNZC (halfBorrow_of_difference ha) (overflow_of_difference ha) (bitOf_seven r) rfl
    (borrow_of_difference ha)

/-- NEG's flags are those of the difference from 0 (R217). -/
theorem negFlags_eq_subFlags (sreg a : Byte) : negFlags sreg a (0 - a) = subFlags sreg 0 a (0 - a) := by
  have hneg : (0 - a).toNat = (256 - a.toNat) % 256 := by bv_omega
  have hzero (i : Nat) : bitOf 0 i = false := BitVec.getLsbD_zero
  have hborrow (i : Nat) : borrowAt i 0 a (0 - a) = (bitOf (0 - a) i || bitOf a i) := by
    rw [borrowAt, hzero]
    cases bitOf a i <;> cases bitOf (0 - a) i <;> rfl
  have hcarry : (bitOf (0 - a) 7 || bitOf a 7) = (0 - a != 0) := by
    rw [bne, beq_zero_eq_flag, bitOf_seven, bitOf_seven, ← Bool.decide_or, ← decide_not, decide_eq_decide]
    omega
  have hoverflow : (bitOf a 7 && bitOf (0 - a) 7) = (0 - a == 0x80) := by
    rw [beq_eq_flag, bitOf_seven, bitOf_seven, ← Bool.decide_and, decide_eq_decide, hneg]
    change _ ↔ _ = 128
    omega
  simp only [subFlags, subFlagsWithZ, hborrow, hcarry, hzero, hoverflow, Bool.false_and, Bool.false_or, Bool.not_false,
    Bool.true_and]
  rfl

end Sys2Proof.Machine
end

section
/-! SUPPORT. How the arithmetic instructions end, and the shapes of the statements from what an instruction hands to its
ending: one lemma for each shape. -/

namespace Sys2Proof.Machine

open Device

section
variable {i : Instr} {s : State} {d : Reg} {f : Byte}

theorem completes_of_aluWrite {v : Byte} (h : exec i s = s.aluWrite d v f) :
    Completes i s (((s.dev.setReg d v).setSreg f).past s.cfg 1 1) := by
  rw [← advance_one]
  exact completes_of_retire_ok h

theorem completes_of_pairWrite {v : Word} (h : exec i s = s.pairWrite d v f) :
    Completes i s (((s.dev.setPair d v).setSreg f).past s.cfg 1 2) := by
  rw [← advance_one]
  exact completes_of_retire_ok h

theorem addCase_of_aluWrite {a b r : Byte} (c : Bool) (hr : r = a + b + carryByte c)
    (h : exec i s = s.aluWrite d r (addFlags s.dev.sreg a b r)) : AddCase i s d a b c.toNat := by
  have hsum := (toNat_of_sum hr).1
  have hresult : BitVec.ofNat 8 (a.toNat + b.toNat + c.toNat) = r :=
    BitVec.eq_of_toNat_eq (by rw [hsum, BitVec.toNat_ofNat])
  rw [AddCase, hresult, ← hsum]
  exact ⟨_, sregIs_flagsHSVNZC (halfCarry_of_sum hr) (overflow_of_sum hr) (bitOf_seven r) (beq_zero_eq_flag r)
    (carry_of_sum hr), completes_of_aluWrite h⟩

theorem subCase_of_aluWrite {a b r : Byte} (c keep : Bool) (ha : a = r + b + carryByte c)
    (h : exec i s = s.aluWrite d r (subFlagsWithZ s.dev.sreg a b r (r == 0 && keep))) :
    SubCase i s d a b c.toNat keep := by
  have hresult : BitVec.ofNat 8 (a.toNat + 512 - b.toNat - c.toNat) = r :=
    BitVec.eq_of_toNat_eq (by rw [toNat_of_difference ha, BitVec.toNat_ofNat])
  rw [SubCase, hresult]
  exact ⟨_, subSreg_subFlagsWithZ s.dev.sreg ha keep, completes_of_aluWrite h⟩

/-- A subtraction without a borrow in (R206, R207). -/
theorem subCase_of_subFlags {a b : Byte} (h : exec i s = s.aluWrite d (a - b) (subFlags s.dev.sreg a b (a - b))) :
    SubCase i s d a b 0 true := by
  have hminuend : a = a - b + b + carryByte false := ((BitVec.add_zero _).trans (BitVec.sub_add_cancel a b)).symm
  exact subCase_of_aluWrite false true hminuend (by rwa [Bool.and_true])

/-- A subtraction with the borrow in, which keeps Z at 0 (R208, R209). -/
theorem subCase_of_subFlagsZ {a b : Byte}
    (h : exec i s = s.aluWrite d (a - b - s.carryIn) (subFlagsZ s.dev.sreg a b (a - b - s.carryIn))) :
    SubCase i s d a b (carryNat s) (bitOf s.dev.sreg 1) := by
  have hminuend : a = a - b - s.carryIn + b + carryByte (bitOf s.dev.sreg 0) := by
    rw [← carryIn_eq, add_right_comm, BitVec.sub_add_cancel, BitVec.sub_add_cancel]
  rw [carryNat_eq]
  exact subCase_of_aluWrite _ _ hminuend h

theorem wordCase_of_pairWrite {x : Int} {r : Word} {v v' c c' : Bool} (hr : r = BitVec.ofInt 16 x) (hv : v = v')
    (hc : c = c') (h : exec i s = s.pairWrite d r (flagsSVNZC s.dev.sreg v r.msb (r == 0) c)) :
    WordCase i s d x v' c' := by
  subst hr
  exact ⟨_, sregIs_flagsSVNZC hv (msb_ofInt_word x) (ofInt_word_beq_zero x) hc, completes_of_pairWrite h⟩

theorem logicCase_of_aluWrite {a b v : Byte} {op : Bool → Bool → Bool} {c : Bool}
    (hv : ∀ k < 8, bitOf v k = op (bitOf a k) (bitOf b k))
    (h : exec i s = s.aluWrite d v (flagsSVNZC s.dev.sreg false (bitOf v 7) (v == 0) c)) :
    LogicCase i s d a b op c :=
  ⟨v, _, hv, sregIs_flagsSVNZC rfl (bitOf_seven v) (beq_zero_eq_flag v) rfl, completes_of_aluWrite h⟩

theorem stepCase_of_aluWrite {n : Nat} {v : Byte} {o o' : Bool} (hv : v.toNat = n) (ho : o = o')
    (h : exec i s = s.aluWrite d v (flagsSVNZ s.dev.sreg o (bitOf v 7) (v == 0))) : StepCase i s d n o' := by
  subst hv
  refine ⟨_, sregIs_flagsSVNZC ho (bitOf_seven v) (beq_zero_eq_flag v) rfl, ?_⟩
  rw [BitVec.ofNat_toNat, BitVec.setWidth_eq]
  exact completes_of_aluWrite h

theorem mulCase_of_mulWrite {p scale : Int} {q : Word} (hq : q = BitVec.ofInt 16 (scale * p))
    (h : exec i s = s.mulWrite (BitVec.ofInt 16 p) q) : MulCase i s p scale := by
  subst hq
  obtain ⟨hcarry, hzero, hrest⟩ := bitOf_flagsZC s.dev.sreg (BitVec.ofInt 16 (scale * p) == 0)
    (BitVec.ofInt 16 p).msb
  exact ⟨_, hcarry.trans (msb_ofInt_word p), hzero.trans (ofInt_word_beq_zero _), hrest, completes_of_pairWrite h⟩

end

/-! ### ADIW and SBIW (R205, R210): overflow and carry told apart by the sign bits of the pair and of the result -/

section
variable (s : State) (d : Reg) (k : BitVec 6)

theorem adiw_wordCase :
    WordCase (.adiw d k) s d ((s.dev.pair d).toNat + k.toNat)
      (flag (32767 < (s.dev.pair d).toInt + k.toNat)) (flag (65536 ≤ (s.dev.pair d).toNat + k.toNat)) := by
  have hsum : (s.dev.pair d + k.setWidth 16).toNat = ((s.dev.pair d).toNat + k.toNat) % 65536 := by bv_omega
  refine wordCase_of_pairWrite (eq_ofInt_word (by omega)) ?overflow ?carry rfl
  case overflow =>
    rw [BitVec.toInt_eq_toNat_cond, msb_eq_flag, msb_eq_flag, hsum, Bool.and_comm]
    exact flag_and_not_eq (by split_ifs <;> omega)
  case carry =>
    rw [msb_eq_flag, msb_eq_flag, hsum, Bool.and_comm]
    exact flag_and_not_eq (by omega)

theorem sbiw_wordCase :
    WordCase (.sbiw d k) s d ((s.dev.pair d).toNat - k.toNat)
      (flag ((s.dev.pair d).toInt - k.toNat < -32768)) (flag ((s.dev.pair d).toNat < k.toNat)) := by
  have hdiff : (s.dev.pair d - k.setWidth 16).toNat = ((s.dev.pair d).toNat + 65536 - k.toNat) % 65536 := by bv_omega
  refine wordCase_of_pairWrite (eq_ofInt_word (by omega)) ?overflow ?carry rfl
  case overflow =>
    rw [BitVec.toInt_eq_toNat_cond, msb_eq_flag, msb_eq_flag, hdiff]
    exact flag_and_not_eq (by split_ifs <;> omega)
  case carry =>
    rw [msb_eq_flag, msb_eq_flag, hdiff]
    exact flag_and_not_eq (by omega)

end

end Sys2Proof.Machine
end

section
/-! SUPPORT. The words of the arithmetic instructions as numbers (R125 to R129). -/

namespace Sys2Proof.Machine

open Encode
open Sys2Proof.Instr (highReg iwReg mulReg)

section
variable {i : Instr} {d r : Reg}

/-- A one-word instruction's form, from its admitted operands as a proposition and its word as a number. -/
theorem form_of_oneWord {admitted : Prop} [Decidable admitted] {adm : Bool} {w : Word} {word : Nat}
    (h : OneWord i adm w) (hadm : adm = flag admitted) (hw : admitted → w.toNat = word) :
    Form i admitted word := by
  refine ⟨h.wellFormed.trans hadm, fun ha => ?_⟩
  rw [h.encode, ← hw ha, BitVec.ofNat_toNat, BitVec.setWidth_eq]

theorem form_fRR (op : BitVec 6) (h : OneWord i true (fRR op d r)) : Form i True (wordRR op.toNat d r) :=
  form_of_oneWord h rfl fun _ => by
    simp only [fRR, r5, wordRR, toNat_append_eq, BitVec.extractLsb'_toNat, BitVec.toNat_ofNat,
      Nat.shiftRight_eq_div_pow]
    omega

theorem form_fR1 (op : BitVec 4) (h : OneWord i true (fR1 op d)) : Form i True (wordR1 op.toNat d) :=
  form_of_oneWord h rfl fun _ => by
    simp only [fR1, r5, wordR1, toNat_append_eq, BitVec.toNat_ofNat, BitVec.reduceToNat]
    omega

theorem form_fRK (op : BitVec 4) {k : Byte} (h : OneWord i (highReg d) (fRK op d k)) :
    Form i (16 ≤ d.val) (wordRK op.toNat d k) :=
  form_of_oneWord h rfl fun _ => by
    simp only [fRK, r4, wordRK, toNat_append_eq, BitVec.extractLsb'_toNat, BitVec.toNat_ofNat,
      Nat.shiftRight_eq_div_pow]
    omega

theorem form_fIW (op : BitVec 1) {k : BitVec 6} (h : OneWord i (iwReg d) (fIW op d k)) :
    Form i (24 ≤ d.val ∧ d.val % 2 = 0) (wordIW op.toNat d k) :=
  form_of_oneWord h (by simp [iwReg, Bool.beq_eq_decide_eq]) fun _ => by
    simp only [fIW, wordIW, toNat_append_eq, BitVec.extractLsb'_toNat, BitVec.toNat_ofNat, BitVec.reduceToNat,
      Nat.shiftRight_eq_div_pow]
    omega

theorem form_fMULS (h : OneWord i (highReg d && highReg r) (fMULS d r)) :
    Form i (16 ≤ d.val ∧ 16 ≤ r.val) (0x0200 + 16 * (d.val - 16) + (r.val - 16)) :=
  form_of_oneWord h (by simp [highReg]) fun _ => by
    simp only [fMULS, r4, toNat_append_eq, BitVec.toNat_ofNat, BitVec.reduceToNat]
    omega

theorem form_fMUL3 (a b : BitVec 1) (h : OneWord i (mulReg d && mulReg r) (fMUL3 a b d r)) :
    Form i ((16 ≤ d.val ∧ d.val ≤ 23) ∧ 16 ≤ r.val ∧ r.val ≤ 23) (wordMul3 (128 * a.toNat + 8 * b.toNat) d r) :=
  form_of_oneWord h (by simp [mulReg]) fun _ => by
    simp only [fMUL3, r3, wordMul3, toNat_append_eq, BitVec.toNat_ofNat, BitVec.reduceToNat]
    omega

end

end Sys2Proof.Machine
end

section
/-! The statements of 40_arith_logic.md. -/

namespace Sys2Proof.Machine

/-- Settles O1: the sum of the operands and a carry, its flags read off it. -/
theorem addResult : Obligations.AddResult := by
  unfold Obligations.AddResult
  intro s d r
  have hadc : AddCase (.adc d r) s d (s.dev.reg d) (s.dev.reg r) (carryNat s) := by
    rw [carryNat_eq]
    exact addCase_of_aluWrite _ (congrArg _ (carryIn_eq s)) rfl
  exact ⟨addCase_of_aluWrite false (BitVec.add_zero _).symm rfl, hadc,
    form_fRR 0b000011 ⟨rfl, rfl, rfl⟩, form_fRR 0b000111 ⟨rfl, rfl, rfl⟩⟩

/-- Settles O2: the difference is what with the subtrahend and the borrow gives the minuend back; its flags are read
off that sum. -/
theorem subtractResult : Obligations.SubtractResult := by
  unfold Obligations.SubtractResult
  intro s d r k
  have hneg : exec (.neg d) s =
      s.aluWrite d (0 - s.dev.reg d) (subFlags s.dev.sreg 0 (s.dev.reg d) (0 - s.dev.reg d)) := by
    rw [← negFlags_eq_subFlags]
    rfl
  exact ⟨subCase_of_subFlags rfl, subCase_of_subFlags rfl, subCase_of_subFlagsZ rfl, subCase_of_subFlagsZ rfl,
    subCase_of_subFlags hneg, form_fRR 0b000110 ⟨rfl, rfl, rfl⟩, form_fRR 0b000010 ⟨rfl, rfl, rfl⟩,
    form_fRK 0b0101 ⟨rfl, rfl, rfl⟩, form_fRK 0b0100 ⟨rfl, rfl, rfl⟩, form_fR1 0b0001 ⟨rfl, rfl, rfl⟩⟩

/-- Settles O4: the word results are exact, and their sign bits tell overflow and carry apart. -/
theorem wordArithmetic : Obligations.WordArithmetic := by
  unfold Obligations.WordArithmetic
  exact fun s d k => ⟨adiw_wordCase s d k, sbiw_wordCase s d k, form_fIW 0 ⟨rfl, rfl, rfl⟩,
    form_fIW 1 ⟨rfl, rfl, rfl⟩⟩

/-- Settles O5: each operation of the machine is its operation on bits. -/
theorem logicResult : Obligations.LogicResult := by
  unfold Obligations.LogicResult
  intro s d r k
  have hand (v : Byte) (j : Nat) (_ : j < 8) := bitOf_and (s.dev.reg d) v j
  have hor (v : Byte) (j : Nat) (_ : j < 8) := bitOf_or (s.dev.reg d) v j
  have hxor (v : Byte) (j : Nat) (_ : j < 8) := bitOf_xor (s.dev.reg d) v j
  exact ⟨logicCase_of_aluWrite (hand _) rfl, logicCase_of_aluWrite (hand _) rfl, logicCase_of_aluWrite (hor _) rfl,
    logicCase_of_aluWrite (hor _) rfl, logicCase_of_aluWrite (hxor _) rfl,
    logicCase_of_aluWrite (fun _ hj => bitOf_full_sub _ hj) rfl,
    form_fRR 0b001000 ⟨rfl, rfl, rfl⟩, form_fRR 0b001010 ⟨rfl, rfl, rfl⟩, form_fRR 0b001001 ⟨rfl, rfl, rfl⟩,
    form_fRK 0b0111 ⟨rfl, rfl, rfl⟩, form_fRK 0b0110 ⟨rfl, rfl, rfl⟩, form_fR1 0b0000 ⟨rfl, rfl, rfl⟩⟩

/-- Settles O6: V is a test of the result, which one register value alone gives. -/
theorem incDecResult : Obligations.IncDecResult := by
  unfold Obligations.IncDecResult
  intro s d
  have hinc : (s.dev.reg d + 1 == 0x80) = flag ((s.dev.reg d).toNat = 127) := by
    rw [beq_eq_flag, decide_eq_decide]
    bv_omega
  have hdec : (s.dev.reg d - 1 == 0x7F) = flag ((s.dev.reg d).toNat = 128) := by
    rw [beq_eq_flag, decide_eq_decide]
    bv_omega
  exact ⟨stepCase_of_aluWrite (by bv_omega) hinc rfl, stepCase_of_aluWrite (by bv_omega) hdec rfl,
    form_fR1 0b0011 ⟨rfl, rfl, rfl⟩, form_fR1 0b1010 ⟨rfl, rfl, rfl⟩⟩

/-- Settles O7: the integer product narrowed to a word, and for the fractional forms shifted by one, which doubles
it. -/
theorem multiplyResult : Obligations.MultiplyResult := by
  unfold Obligations.MultiplyResult
  intro s d r u t
  have hone (p : Int) : BitVec.ofInt 16 p = BitVec.ofInt 16 (1 * p) := by rw [one_mul]
  exact ⟨mulCase_of_mulWrite (hone _) rfl, mulCase_of_mulWrite (hone _) rfl, mulCase_of_mulWrite (hone _) rfl,
    mulCase_of_mulWrite (ofInt_word_shiftLeft_one _) rfl, mulCase_of_mulWrite (ofInt_word_shiftLeft_one _) rfl,
    mulCase_of_mulWrite (ofInt_word_shiftLeft_one _) rfl,
    form_fRR 0b100111 ⟨rfl, rfl, rfl⟩, form_fMULS ⟨rfl, rfl, rfl⟩, form_fMUL3 0 0 ⟨rfl, rfl, rfl⟩,
    form_fMUL3 0 1 ⟨rfl, rfl, rfl⟩, form_fMUL3 1 0 ⟨rfl, rfl, rfl⟩, form_fMUL3 1 1 ⟨rfl, rfl, rfl⟩⟩

end Sys2Proof.Machine
end

section
/-! SUPPORT. The SREG bits an instruction leaves (R202): one lemma for each way SREG is written, one for each shared
operation, then every instruction. -/

namespace Sys2Proof.Machine

/-! ### The bits that a write to SREG leaves -/

/-- `new` has the bits of `old` outside `mask`. -/
def KeepsBits (mask old new : Byte) : Prop := ∀ k, bitOf mask k = false → bitOf new k = bitOf old k

theorem KeepsBits.of_eq {mask old new : Byte} (h : new = old) : KeepsBits mask old new := fun _ _ => by rw [h]

section
variable {mask sreg : Byte} {h v n z c : Bool}

/-- Beside S, V, N and Z, a flag computation may write H and C. -/
theorem flagsHSVNZC_keepsBits (hmask : ∀ k ∈ [1, 2, 3, 4], bitOf mask k = true)
    (hh : bitOf mask 5 = false → h = bitOf sreg 5) (hc : bitOf mask 0 = false → c = bitOf sreg 0) :
    KeepsBits mask sreg (flagsHSVNZC sreg h v n z c) := by
  intro k hk
  obtain ⟨h0, -, -, -, -, h5, h6, h7⟩ := bitOf_flagsHSVNZC sreg h v n z c
  have hwritten : k ∉ [1, 2, 3, 4] := fun hmem => by rw [hmask k hmem] at hk; cases hk
  by_cases h8 : k < 8
  · have hkept : k = 0 ∨ k = 5 ∨ k = 6 ∨ k = 7 := by
      simp only [List.mem_cons, List.not_mem_nil, or_false] at hwritten
      omega
    obtain rfl | rfl | rfl | rfl := hkept
    · exact h0.trans (hc hk)
    · exact h5.trans (hh hk)
    · exact h6
    · exact h7
  · rw [bitOf, bitOf, BitVec.getLsbD_of_ge _ k (by omega), BitVec.getLsbD_of_ge _ k (by omega)]

theorem flagsHSVNZC_keepsI_T : KeepsBits 0x3F sreg (flagsHSVNZC sreg h v n z c) :=
  flagsHSVNZC_keepsBits (by decide) nofun nofun

theorem flagsSVNZC_keepsH : KeepsBits 0x1F sreg (flagsSVNZC sreg v n z c) :=
  flagsHSVNZC_keepsBits (by decide) (fun _ => rfl) nofun

theorem flagsSVNZ_keepsH_C : KeepsBits 0x1E sreg (flagsSVNZ sreg v n z) :=
  flagsHSVNZC_keepsBits (by decide) (fun _ => rfl) (fun _ => rfl)

theorem flagsZC_keepsBits : KeepsBits 0x03 sreg (flagsZC sreg z c) := by
  intro k hk
  refine (bitOf_flagsZC sreg z c).2.2 k ?_
  by_contra hlt
  interval_cases k <;> cases hk

theorem bitOf_shiftLeft_self {i : Nat} (hi : i < 8) : bitOf (1#8 <<< i) i = true := by
  rw [bitOf, BitVec.getLsbD_shiftLeft]
  simp [hi]

theorem setBit_keepsBits {i : Nat} (hi : i < 8) (b : Bool) : KeepsBits (1#8 <<< i) sreg (setBit sreg i b) := by
  intro k hk
  have hne : k ≠ i := by
    rintro rfl
    rw [bitOf_shiftLeft_self hi] at hk
    cases hk
  rw [bitOf_setBit _ _ _ _ hi, if_neg hne]

end

/-! ### Which access reaches SREG (R36) -/

theorem eq_of_ioReg_eq_sreg {a : Nat} (h : ioReg a = some .sreg) : a = 0x5F := by
  obtain ⟨l, l', hmap, -⟩ := List.lookup_eq_some_iff.mp h
  have hmem : (a, IoReg.sreg) ∈ ioMap := by simp [hmap]
  have hall : ∀ cell ∈ ioMap, cell.2 = .sreg → cell.1 = 0x5F := by decide
  exact hall _ hmem rfl

namespace Device

section
variable {c : Config} {d e : Device} {v mask : Byte}

theorem afterIoRead_sreg (d : Device) (r : IoReg) : (d.afterIoRead r).sreg = d.sreg := by
  rw [(d.afterIoRead_frame r).1]

theorem ioRead_sreg {a : Nat} (h : d.ioRead a = .ok (v, e)) : e.sreg = d.sreg := by
  rcases d.ioRead_cases a with ⟨r, -, he⟩ | ⟨-, he⟩ <;> rw [he] at h <;> cases h
  exact d.afterIoRead_sreg r

theorem memRead_sreg {a : Word} (h : d.memRead a = .ok (v, e)) : e.sreg = d.sreg := by
  rcases memRead_cases h with ⟨-, -, rfl⟩ | ⟨-, -, r, -, -, rfl⟩ | ⟨-, -, -, rfl⟩
  · rfl
  · exact d.afterIoRead_sreg r
  · rfl

theorem Accesses.sreg {access : Access} (h : Accesses d access e) (hne : access.target ≠ some .sreg) :
    e.sreg = d.sreg := h.ioValue (q := .sreg) rfl hne (.inl ⟨nofun, nofun⟩)

theorem ioWrite_sreg {a : Nat} (ha : a ≠ 0x5F) (h : d.ioWrite a v mask = .ok e) : e.sreg = d.sreg :=
  (Accesses.ioWrite h).sreg fun hr => ha (eq_of_ioReg_eq_sreg hr)

theorem memWrite_sreg {a : Word} (ha : a ≠ 0x5F) (h : d.memWrite a v = .ok e) : e.sreg = d.sreg := by
  rcases memWrite_cases h with ⟨-, rfl⟩ | ⟨-, -, r, hr, hm⟩ | ⟨-, -, rfl⟩
  · rfl
  · have hne : r ≠ .sreg := by
      rintro rfl
      exact ha (BitVec.eq_of_toNat_eq (eq_of_ioReg_eq_sreg hr))
    exact (Accesses.write (access := .store a) hr hm).sreg fun heq => hne (Option.some_inj.mp (hr.symm.trans heq))
  · rfl

theorem ptrUpdate_sreg (d : Device) (p : Ptr) (old : Word) (mode : PtrMode) :
    (d.ptrUpdate p old mode).sreg = d.sreg := by
  cases mode <;> rfl

/-! ### The effects of instructions -/

/-- The effect `x` of `d`, if it raises no fault, keeps the SREG bits outside `mask`. -/
def KeepsFlags (mask : Byte) (d : Device) (x : Except FaultDetail Device) : Prop :=
  ∀ e, x = .ok e → KeepsBits mask d.sreg e.sreg

theorem KeepsFlags.of_keepsBits (h : KeepsBits mask d.sreg e.sreg) : KeepsFlags mask d (.ok e) := by
  rintro _ ⟨⟩
  exact h

theorem KeepsFlags.of_error (f : FaultDetail) : KeepsFlags mask d (.error f) := fun _ h => by cases h

theorem KeepsFlags.map {α : Type} {x : Except FaultDetail α} {f : α → Device}
    (h : ∀ a, x = .ok a → KeepsBits mask d.sreg (f a).sreg) : KeepsFlags mask d (x.map f) := by
  cases x with
  | error f => exact .of_error f
  | ok a => exact .of_keepsBits (h a rfl)

theorem loadFrom_keepsFlags (rd : Reg) (a : Word) (words : ProgAddr) : KeepsFlags mask d (d.loadFrom c rd a words) :=
  .map fun _ h => .of_eq (memRead_sreg h :)

theorem load_keepsFlags (rd : Reg) (p : Ptr) (mode : PtrMode) : KeepsFlags mask d (d.load c rd p mode) :=
  .map fun _ h => .of_eq ((ptrUpdate_sreg _ p _ mode).trans (memRead_sreg h))

theorem storeTo_keepsFlags (rr : Reg) {a : Word} (ha : a ≠ 0x5F) (words : ProgAddr) :
    KeepsFlags mask d (d.storeTo c rr a words) :=
  .map fun _ h => .of_eq (memWrite_sreg ha h :)

theorem store_keepsFlags (rr : Reg) {p : Ptr} {mode : PtrMode} (ha : d.ptrAddr p mode ≠ 0x5F) :
    KeepsFlags mask d (d.store c rr p mode) :=
  .map fun _ h => .of_eq ((ptrUpdate_sreg _ p _ mode).trans (memWrite_sreg ha h))

theorem loadProg_keepsFlags (rd : Reg) (a : Nat) {after : Device → Device} (h : (after d).sreg = d.sreg) :
    KeepsFlags mask d (d.loadProg c rd a after) :=
  .map fun _ _ => .of_eq h

theorem call_keepsFlags (words target : ProgAddr) (cycles : Nat) : KeepsFlags mask d (d.call c words target cycles) :=
  fun e h => .of_eq (by rw [(call_frame h).1])

/-- A call whose target is checked first (R250, R409). -/
theorem checkedCall_keepsFlags (words : ProgAddr) (cycles : Nat) (target : Except FaultDetail ProgAddr) :
    KeepsFlags mask d (match target with
      | .ok t => d.call c words t cycles
      | .error e => .error e) := by
  cases target with
  | ok t => exact call_keepsFlags words t cycles
  | error f => exact .of_error f

theorem returnTo_sreg (h : d.returnTo c = .ok e) : e.sreg = d.sreg := by
  rw [(returnTo_frame h).1]

/-- RETI sets I alone (R261). -/
theorem returnFromInterrupt_keepsFlags : KeepsFlags 0x80 d (d.returnFromInterrupt c) :=
  .map fun e h => by
    rw [← returnTo_sreg h]
    exact setBit_keepsBits (i := 7) (by decide) true

theorem skipIf_sreg {cond : Bool} (h : d.skipIf c cond = .ok e) : e.sreg = d.sreg := by
  obtain ⟨n, -, rfl⟩ := skipIf_cases h
  rfl

theorem skipOnIo_keepsFlags (a : BitVec 5) (b : Fin 8) (want : Bool) :
    KeepsFlags mask d (d.skipOnIo c a b want) := by
  unfold skipOnIo
  cases h : d.ioRead (ioAddr a) with
  | error f => exact .of_error f
  | ok r => exact fun e he => .of_eq ((skipIf_sreg he).trans (ioRead_sreg h))

end

end Device

open Device

/-! ### Every instruction -/

theorem exists_retire_of_keepsBits {s : State} {o : Host.Outcome State Fault Refusal} {mask : Byte} {e : Device}
    (ho : o = s.retire (.ok e)) (h : KeepsBits mask s.dev.sreg e.sreg) :
    ∃ x, o = s.retire x ∧ KeepsFlags mask s.dev x := ⟨_, ho, .of_keepsBits h⟩

/-- Every instruction that does not write data address 0x5F retires an effect that keeps the SREG bits outside the
flags of its rule. -/
theorem exec_keepsFlags (i : Instr) (s : State) (h : Instr.writesData s.cfg s.dev i 0x5F = false) :
    ∃ x, exec i s = s.retire x ∧ KeepsFlags (Instr.flagMask i) s.dev x := by
  have hstore {a : Word} (ha : decide (Access.store a = .store 0x5F) = false) : a ≠ 0x5F := by
    rintro rfl
    cases ha
  cases i with
  | add | adc | sub | subi | sbc | sbci | neg | cp | cpc | cpi =>
    exact exists_retire_of_keepsBits rfl flagsHSVNZC_keepsI_T
  | adiw | sbiw | com | lsr | ror | asr =>
    exact exists_retire_of_keepsBits rfl flagsSVNZC_keepsH
  | and | andi | or | ori | eor | inc | dec =>
    exact exists_retire_of_keepsBits rfl flagsSVNZ_keepsH_C
  | mul | muls | mulsu | fmul | fmuls | fmulsu =>
    exact exists_retire_of_keepsBits rfl flagsZC_keepsBits
  | bset f | bclr f =>
    exact exists_retire_of_keepsBits rfl (setBit_keepsBits f.isLt _)
  | bst =>
    exact exists_retire_of_keepsBits rfl (setBit_keepsBits (i := 6) (by decide) _)
  | reti => exact ⟨_, rfl, returnFromInterrupt_keepsFlags⟩
  | mov | movw | ldi | swap | bld | rjmp | ijmp | nop | wdr | brk =>
    exact exists_retire_of_keepsBits rfl (.of_eq rfl)
  | eijmp | jmp => exact ⟨_, rfl, .map fun _ _ => .of_eq rfl⟩
  | rcall | icall => exact ⟨_, rfl, call_keepsFlags _ _ _⟩
  | eicall | call => exact ⟨_, rfl, checkedCall_keepsFlags _ _ _⟩
  | ret => exact ⟨_, rfl, fun _ he => .of_eq (returnTo_sreg he)⟩
  | cpse | sbrc | sbrs => exact ⟨_, rfl, fun _ he => .of_eq (skipIf_sreg he)⟩
  | sbic | sbis => exact ⟨_, rfl, skipOnIo_keepsFlags _ _ _⟩
  | brbs | brbc =>
    exact exists_retire_of_keepsBits rfl (.of_eq (by split <;> rfl))
  | lds => exact ⟨_, rfl, loadFrom_keepsFlags _ _ _⟩
  | ldX | ldXInc | ldDecX | ldYInc | ldDecY | ldY | lddY | ldZInc | ldDecZ | ldZ | lddZ =>
    exact ⟨_, rfl, load_keepsFlags _ _ _⟩
  | sts => exact ⟨_, rfl, storeTo_keepsFlags _ (hstore h) _⟩
  | stX | stXInc | stDecX | stYInc | stDecY | stY | stdY | stZInc | stDecZ | stZ | stdZ =>
    exact ⟨_, rfl, store_keepsFlags _ (hstore h)⟩
  | lpm | lpmZ | lpmZInc | elpm | elpmZ | elpmZInc => exact ⟨_, rfl, loadProg_keepsFlags _ _ rfl⟩
  | spm => exact ⟨_, rfl, .of_error _⟩
  | ioIn => exact ⟨_, rfl, .map fun _ he => .of_eq (ioRead_sreg he :)⟩
  | ioOut => exact ⟨_, rfl, .map fun _ he => .of_eq (ioWrite_sreg (of_decide_eq_false h) he :)⟩
  | sbi a | cbi a =>
    have ha : ioAddr a ≠ 0x5F := by
      rw [ioAddr]
      omega
    exact ⟨_, rfl, .map fun _ he => .of_eq (ioWrite_sreg ha he :)⟩
  | push => exact ⟨_, rfl, .map fun _ he => .of_eq ((Accesses.push8 he).sreg nofun :)⟩
  | pop => exact ⟨_, rfl, .map fun _ he => .of_eq ((Accesses.pop8 he).sreg nofun :)⟩
  | sleep =>
    refine ⟨_, rfl, ?_⟩
    split
    · exact .of_keepsBits (.of_eq rfl)
    · split
      · exact .of_keepsBits (.of_eq rfl)
      · exact .of_error _

/-- Settles O27: what an instruction does to SREG beside its flags is its data write, and a fault leaves SREG. -/
theorem flagFrame : Obligations.FlagFrame := by
  unfold Obligations.FlagFrame
  intro i s t k h hmask hwrites
  obtain ⟨x, hx, hkeeps⟩ := exec_keepsFlags i s hwrites
  rw [hx] at h
  cases x with
  | ok e =>
    cases h
    exact hkeeps e rfl k hmask
  | error f =>
    cases h
    rfl

end Sys2Proof.Machine
end

section
/-! SUPPORT. How the instructions of 41_branch.md end: the shapes of their statements from what an instruction hands to
its ending, for the compares, the jumps, the branches and the skips. -/

namespace Sys2Proof.Machine

open Device

/-! ### Compares (R264 to R266) -/

/-- The difference and the subtrahend give the minuend back. -/
theorem minuend_eq (a b : Byte) : a = a - b + b + carryByte false :=
  ((BitVec.add_zero _).trans (BitVec.sub_add_cancel a b)).symm

/-- The difference, the subtrahend and SREG.C give the minuend back. -/
theorem minuend_eq_carryIn (s : State) (a b : Byte) : a = a - b - s.carryIn + b + carryByte (bitOf s.dev.sreg 0) := by
  rw [← carryIn_eq, add_right_comm, BitVec.sub_add_cancel, BitVec.sub_add_cancel]

section
variable {i : Instr} {s : State}

theorem cmpCase_of_sregWrite {a b r : Byte} (c keep : Bool) (ha : a = r + b + carryByte c)
    (h : exec i s = s.sregWrite (subFlagsWithZ s.dev.sreg a b r (r == 0 && keep))) : CmpCase i s a b c.toNat keep := by
  refine ⟨_, subSreg_subFlagsWithZ s.dev.sreg ha keep, ?_⟩
  rw [← advance_one]
  exact completes_of_retire_ok h

/-- A compare without a borrow in (R264, R266). -/
theorem cmpCase_of_subFlags {a b : Byte} (h : exec i s = s.sregWrite (subFlags s.dev.sreg a b (a - b))) :
    CmpCase i s a b 0 true :=
  cmpCase_of_sregWrite false true (minuend_eq a b) (by rwa [Bool.and_true])

/-- A compare with the borrow in, which keeps Z at 0 (R265). -/
theorem cmpCase_of_subFlagsZ {a b : Byte}
    (h : exec i s = s.sregWrite (subFlagsZ s.dev.sreg a b (a - b - s.carryIn))) :
    CmpCase i s a b (carryNat s) (bitOf s.dev.sreg 1) := by
  rw [carryNat_eq]
  exact cmpCase_of_sregWrite _ _ (minuend_eq_carryIn s a b) h

/-! ### Jumps and branches (R250, R252 to R255, R271, R272) -/

theorem checkTarget_of_lt {c : Config} {n : Nat} (h : n < c.pcModulus) :
    checkTarget c n = .ok (BitVec.ofNat 17 n) := if_pos h

theorem checkTarget_of_le {c : Config} {n : Nat} (h : c.pcModulus ≤ n) :
    checkTarget c n = .error (.bus .fetch (2 * n)) := if_neg (Nat.not_lt.mpr h)

theorem completes_of_jumpTo {t : ProgAddr} {n cycles : Nat} (ht : t.toNat = n)
    (h : exec i s = s.retire (.ok (s.dev.jumpTo t cycles))) : Completes i s (s.dev.jumped n cycles) := by
  rw [← jumpTo_eq_jumped ht]
  exact completes_of_retire_ok h

/-- A jump that checks its target first (R250). -/
theorem jumpCase_of_checkTarget {n cycles : Nat}
    (h : exec i s = s.retire ((checkTarget s.cfg n).map fun t => s.dev.jumpTo t cycles)) :
    JumpCase i s n cycles := by
  refine ⟨fun hlt => ?_, fun hle => ?_⟩
  · rw [checkTarget_of_lt hlt] at h
    exact completes_of_retire_ok h
  · rw [checkTarget_of_le hle] at h
    exact halts_of_retire_error h

theorem relTarget_eq_relative {n : Nat} (s : State) (k : BitVec n) (hn : n ≤ 17) :
    (s.dev.relTarget s.cfg k).toNat = relative s k.toInt := relTarget_toNat s.cfg s.dev k hn

/-- Z as a word address (R253). -/
theorem ptrTarget_toNat (d : Device) (p : Ptr) : ((d.ptr p).setWidth 17).toNat = (d.ptr p).toNat :=
  BitVec.toNat_setWidth_of_le (by decide)

theorem completes_of_branchIf {p : Prop} [Decidable p] {taken : Bool} {k : BitVec 7} (hp : taken = true ↔ p)
    (h : exec i s = s.branchIf taken k) :
    Completes i s (if p then s.dev.jumped (relative s k.toInt) 2 else s.dev.past s.cfg 1 1) := by
  by_cases htaken : p
  · rw [State.branchIf, if_pos (hp.mpr htaken)] at h
    rw [if_pos htaken]
    exact completes_of_jumpTo (relTarget_eq_relative s k (by decide)) h
  · rw [State.branchIf, if_neg (hp.not.mpr htaken)] at h
    rw [if_neg htaken, ← advance_one]
    exact completes_of_retire_ok h

/-! ### Skips (R262, R122) -/

/-- The next pc, by numbers (R37). -/
theorem wrapPc_pc_add_eq_nextPc (c : Config) (d : Device) {words : ProgAddr} {n : Nat} (hw : words.toNat = n) :
    c.wrapPc (d.pc + words) = nextPc c d.pc n :=
  congrArg Device.pc (advance_eq_past (k := 0) hw)

/-- The two-word opcodes as masks of the word (R121). -/
theorem isTwoWord_iff_masked (w : Word) : isTwoWord w = true ↔
    (w &&& 0xFE0E = 0x940C) ∨ (w &&& 0xFE0E = 0x940E) ∨ (w &&& 0xFE0F = 0x9000) ∨ (w &&& 0xFE0F = 0x9200) := by
  simp only [isTwoWord, Bool.or_eq_true, Nat.beq_eq, or_assoc, BitVec.toNat_eq]
  rfl

theorem skipIf_false (c : Config) (d : Device) : d.skipIf c false = .ok (d.past c 1 1) :=
  congrArg Except.ok (advance_one c d 1)

theorem skipIf_true (c : Config) (d : Device) :
    d.skipIf c true = (d.fetch c (nextPc c d.pc 1)).map fun w => d.past c (1 + skipLength w) (1 + skipLength w) := by
  have hlength (w : Word) : (BitVec.ofNat 17 (1 + skipLength w)).toNat = 1 + skipLength w := by
    rw [skipLength]
    split <;> rfl
  simp only [skipIf, if_true, wrapPc_pc_add_eq_nextPc c d (words := 1) (n := 1) rfl, advance_eq_past (hlength _)]

/-- A skip whose own reads leave pc and program memory. -/
theorem skipCase_of_skipIf {d : Device} {p : Prop} {cond : Bool} (hpc : d.pc = s.dev.pc) (hprog : d.prog = s.dev.prog)
    (hp : cond = true ↔ p) (h : exec i s = s.retire (d.skipIf s.cfg cond)) : SkipCase i s d p := by
  have hword (a : ProgAddr) : d.progWord a = s.dev.progWord a := by rw [progWord, progByte, progByte, hprog]; rfl
  have htrue (hskip : p) : exec i s = s.retire ((d.fetch s.cfg (nextPc s.cfg s.dev.pc 1)).map fun w =>
      d.past s.cfg (1 + skipLength w) (1 + skipLength w)) := by
    rw [h, hp.mpr hskip, skipIf_true, hpc]
  have hskipped (hskip : p) (hin : 2 * (nextPc s.cfg s.dev.pc 1).toNat + 1 < s.cfg.progBytes) {n : Nat}
      (hn : 1 + skipLength (s.dev.progWord (nextPc s.cfg s.dev.pc 1)) = n) : Completes i s (d.past s.cfg n n) := by
    subst hn
    apply completes_of_retire_ok
    rw [htrue hskip, fetch, if_pos hin, hword]
    rfl
  refine ⟨fun hstay => ?_, fun hskip hin hshort => ?_, fun hskip hin hlong => ?_, fun hskip hout => ?_⟩
  · rw [Bool.eq_false_iff.mpr (hp.not.mpr hstay), skipIf_false] at h
    exact completes_of_retire_ok h
  · exact hskipped hskip hin (by rw [skipLength, if_neg ((isTwoWord_iff_masked _).not.mpr hshort)])
  · exact hskipped hskip hin (by rw [skipLength, if_pos ((isTwoWord_iff_masked _).mpr hlong)])
  · apply halts_of_retire_error
    rw [htrue hskip, fetch, if_neg (Nat.not_lt.mpr hout)]
    rfl

theorem skipOnIo_of_claimed {d : Device} {a : BitVec 5} {r : IoReg} (hr : ioReg (a.toNat + 0x20) = some r)
    (c : Config) (b : Fin 8) (want : Bool) :
    d.skipOnIo c a b want = (d.afterIoRead r).skipIf c (bitOf (d.ioValue r) b.val == want) := by
  rw [skipOnIo, ioRead, ioAddr, hr]

theorem skipOnIo_of_unclaimed {d : Device} {a : BitVec 5} (hr : ioReg (a.toNat + 0x20) = none) (c : Config)
    (b : Fin 8) (want : Bool) : d.skipOnIo c a b want = .error (.bus .read (a.toNat + 0x20)) := by
  rw [skipOnIo, ioRead, ioAddr, hr]

theorem skipCase_of_skipOnIo {a : BitVec 5} {r : IoReg} {b : Fin 8} {want : Bool}
    (hr : ioReg (a.toNat + 0x20) = some r) (h : exec i s = s.retire (s.dev.skipOnIo s.cfg a b want)) :
    SkipCase i s (s.dev.afterIoRead r) (bitOf (s.dev.ioValue r) b.val = want) := by
  rw [skipOnIo_of_claimed hr] at h
  refine skipCase_of_skipIf ?_ ?_ beq_iff_eq h <;> rw [(s.dev.afterIoRead_frame r).1]

end

end Sys2Proof.Machine
end

section
/-! SUPPORT. The stack as bytes at numbered addresses (R96 to R99): what several pushes and several pops do, and where
the first fault falls. -/

namespace Sys2Proof.Machine

namespace Device

section
variable {c : Config} {d m : Device}

/-! ### Pushes -/

/-- The byte at address `a` after the bytes are pushed from `sp` downwards, the byte there having been `old`. -/
def pushedByte (a : Nat) (old : Byte) : Nat → List Byte → Byte
  | _, [] => old
  | sp, v :: vs => if a = sp then v else pushedByte a old (sp - 1) vs

theorem pushedByte_of_lt {a sp : Nat} {old : Byte} {vs : List Byte} (h : sp < a) : pushedByte a old sp vs = old := by
  induction vs generalizing sp with
  | nil => rfl
  | cons v vs ih => rw [pushedByte, if_neg h.ne', ih (by omega)]

theorem push8_of_inSram (h : 0x200 ≤ d.sp.toNat ∧ d.sp.toNat ≤ 0x21FF) (v : Byte) :
    d.push8 v = .ok ((d.setSramByte d.sp.toNat v).setSp (d.sp - 1)) := if_pos ((inSram_iff _).mpr h)

theorem push8_of_not_inSram (h : ¬ (0x200 ≤ d.sp.toNat ∧ d.sp.toNat ≤ 0x21FF)) (v : Byte) :
    d.push8 v = .error (.stack .push d.sp) := if_neg ((inSram_iff _).not.mpr h)

/-- Pushes with room complete (R98). -/
theorem exists_pushBytes_ok {vs : List Byte} (hlow : 0x200 + vs.length ≤ d.sp.toNat + 1)
    (hhigh : d.sp.toNat ≤ 0x21FF) : ∃ m, d.pushBytes vs = .ok m := by
  induction vs generalizing d with
  | nil => exact ⟨d, rfl⟩
  | cons v vs ih =>
    rw [List.length_cons] at hlow
    have hdown : (d.sp - 1).toNat = d.sp.toNat - 1 := by bv_omega
    rw [pushBytes, push8_of_inSram (by omega)]
    exact ih (by rw [setSp_sp]; omega) (by rw [setSp_sp]; omega)

/-- Pushes without room fault at SP or just below SRAM (R98, R404). -/
theorem pushBytes_eq_error {vs : List Byte} (hne : vs ≠ [])
    (hroom : ¬ (0x200 + vs.length ≤ d.sp.toNat + 1 ∧ d.sp.toNat ≤ 0x21FF)) :
    d.pushBytes vs = .error (.stack .push (pushFaultAt d.sp)) := by
  induction vs generalizing d with
  | nil => exact absurd rfl hne
  | cons v vs ih =>
    rw [List.length_cons] at hroom
    rw [pushBytes, pushFaultAt]
    by_cases hin : 0x200 ≤ d.sp.toNat ∧ d.sp.toNat ≤ 0x21FF
    · have hdown : (d.sp - 1).toNat = d.sp.toNat - 1 := by bv_omega
      have hrest : vs ≠ [] := by
        rintro rfl
        rw [List.length_nil] at hroom
        omega
      have hfault : pushFaultAt (d.sp - 1) = 0x1FF := by
        rw [pushFaultAt]
        split
        · rfl
        · bv_omega
      rw [push8_of_inSram hin, if_pos hin]
      exact (ih hrest (by rw [setSp_sp]; omega)).trans (by rw [setSp_sp, hfault])
    · rw [push8_of_not_inSram hin, if_neg hin]

/-- Pushes that complete write the bytes from SP downwards and leave the others. -/
theorem sramByte_pushBytes {vs : List Byte} (h : d.pushBytes vs = .ok m) (hwf : Memory.wf .sram d.sram = true)
    (a : Nat) : m.sramByte a = pushedByte a (d.sramByte a) d.sp.toNat vs := by
  induction vs generalizing d with
  | nil => cases h; rfl
  | cons v vs ih =>
    rw [pushBytes] at h
    rcases d.push8_cases v with ⟨hin, he⟩ | ⟨-, he⟩ <;> rw [he] at h
    · have hdown : (d.sp - 1).toNat = d.sp.toNat - 1 := by
        have := (inSram_iff _).mp hin
        bv_omega
      have hrest : m.sramByte a = pushedByte a ((d.setSramByte d.sp.toNat v).sramByte a) (d.sp.toNat - 1) vs := by
        rw [← hdown]
        exact ih h (Memory.wf_write _ _ hwf)
      rw [hrest, pushedByte]
      split
      case isTrue ha =>
        subst ha
        rw [pushedByte_of_lt (by have := (inSram_iff _).mp hin; omega)]
        exact Memory.read_write_same hwf _ v
      case isFalse ha => rw [sramByte_setSramByte_of_ne hwf ha]
    · cases h

theorem extractLsb'_eq_ofNat_div (v : ProgAddr) (i : Nat) :
    v.extractLsb' i 8 = BitVec.ofNat 8 (v.toNat / 2 ^ i) := by
  rw [← Nat.shiftRight_eq_div_pow]
  rfl

/-- A pushed return address lies at SP and below, low byte first (R99). -/
theorem pushed_of_pushRA {v : ProgAddr} (h : d.pushRA c v = .ok m) (hwf : Memory.wf .sram d.sram = true) :
    Pushed c d m v.toNat := by
  intro a
  rw [sramByte_pushBytes h hwf, raBytesOf]
  cases hc : c.pcBits <;>
    simp [pushedByte, extractLsb'_eq_ofNat_div, PcBits.raBytes, Nat.sub_sub]

theorem exists_pushRA_ok (h : pushRoom c d.sp) (v : ProgAddr) : ∃ m, d.pushRA c v = .ok m :=
  exists_pushBytes_ok (by rw [length_raBytesOf]; exact h.1) h.2

theorem pushRA_eq_error (h : ¬ pushRoom c d.sp) (v : ProgAddr) :
    d.pushRA c v = .error (.stack .push (pushFaultAt d.sp)) := by
  apply pushBytes_eq_error
  · rw [raBytesOf]
    split <;> exact List.cons_ne_nil _ _
  · rwa [length_raBytesOf]

/-! ### Pops -/

/-- `n` bytes from above address `a` upwards appended to `v`, the high byte first. -/
def poppedOnto (byte : Nat → Byte) (a v : Nat) : Nat → Nat
  | 0 => v
  | n + 1 => poppedOnto byte (a + 1) (256 * v + (byte (a + 1)).toNat) n

theorem pop8_of_inSram (h : 0x1FF ≤ d.sp.toNat ∧ d.sp.toNat < 0x21FF) :
    d.pop8 = .ok (d.sramByte (d.sp.toNat + 1), d.setSp (d.sp + 1)) := by
  have hup : (d.sp + 1).toNat = d.sp.toNat + 1 := by bv_omega
  rw [pop8, if_pos ((inSram_iff _).mpr (by omega)), hup]

theorem pop8_of_not_inSram (h : ¬ (0x1FF ≤ d.sp.toNat ∧ d.sp.toNat < 0x21FF)) :
    d.pop8 = .error (.stack .pop (d.sp + 1)) := by
  refine if_neg ((inSram_iff _).not.mpr ?_)
  bv_omega

/-- Pops with room (R98, R99). -/
theorem popBytes_eq_ok {n : Nat} (v : Nat) (hlow : 0x1FF ≤ d.sp.toNat) (hhigh : d.sp.toNat + n ≤ 0x21FF) :
    d.popBytes v n = .ok (poppedOnto d.sramByte d.sp.toNat v n, d.setSp (BitVec.ofNat 16 (d.sp.toNat + n))) := by
  induction n generalizing d v with
  | zero =>
    rw [popBytes, poppedOnto, Nat.add_zero, BitVec.ofNat_toNat, BitVec.setWidth_eq]
    rfl
  | succ n ih =>
    have hup : (d.sp + 1).toNat = d.sp.toNat + 1 := by bv_omega
    rw [popBytes, pop8_of_inSram (by omega)]
    refine (ih (d := d.setSp (d.sp + 1)) _ (by rw [setSp_sp]; omega) (by rw [setSp_sp]; omega)).trans ?_
    rw [setSp_sp, hup, poppedOnto, Nat.add_right_comm, Nat.add_assoc]
    rfl

/-- Pops without room fault at SP + 1 or just above SRAM (R98, R404). -/
theorem popBytes_eq_error {n : Nat} (v : Nat) (hn : n ≠ 0)
    (hroom : ¬ (0x1FF ≤ d.sp.toNat ∧ d.sp.toNat + n ≤ 0x21FF)) :
    d.popBytes v n = .error (.stack .pop (popFaultAt d.sp)) := by
  induction n generalizing d v with
  | zero => exact absurd rfl hn
  | succ n ih =>
    rw [popBytes, popFaultAt]
    by_cases hin : 0x1FF ≤ d.sp.toNat ∧ d.sp.toNat < 0x21FF
    · have hup : (d.sp + 1).toNat = d.sp.toNat + 1 := by bv_omega
      have hfault : popFaultAt (d.sp + 1) = 0x2200 := by
        rw [popFaultAt]
        split
        · rfl
        · bv_omega
      rw [pop8_of_inSram hin, if_pos (by omega)]
      exact (ih _ (by omega) (by rw [setSp_sp]; omega)).trans (by rw [setSp_sp, hfault])
    · rw [pop8_of_not_inSram hin, if_neg (by omega), BitVec.ofNat_add, BitVec.ofNat_toNat, BitVec.setWidth_eq]
      rfl

theorem popRA_eq_ok (h : popRoom c d.sp) :
    d.popRA c = .ok (stackedRA c d, d.setSp (BitVec.ofNat 16 (d.sp.toNat + c.pcBits.raBytes))) := by
  have hvalue : poppedOnto d.sramByte d.sp.toNat 0 c.pcBits.raBytes = stackedRA c d := by
    rw [stackedRA]
    cases c.pcBits <;> simp only [PcBits.raBytes, poppedOnto, Nat.add_assoc, Nat.reduceAdd] <;> omega
  rw [popRA, popBytes_eq_ok 0 h.1 h.2, hvalue]

theorem popRA_eq_error (h : ¬ popRoom c d.sp) : d.popRA c = .error (.stack .pop (popFaultAt d.sp)) :=
  popBytes_eq_error 0 (by cases c.pcBits <;> decide) h

end

end Device

end Sys2Proof.Machine
end

section
/-! SUPPORT. Calls and returns (R251, R256 to R261) from the stack's operations. -/

namespace Sys2Proof.Machine

open Device

section
variable {i : Instr} {s : State}

theorem nextPc_toNat (c : Config) (pc : ProgAddr) (n : Nat) :
    (nextPc c pc n).toNat = (pc.toNat + n) % c.pcModulus := by
  rw [nextPc, BitVec.toNat_ofNat]
  apply Nat.mod_eq_of_lt
  rcases c.pcModulus_cases with h | h <;> rw [h] <;> omega

/-! ### Calls -/

theorem wideCost_eq (c : Config) (n : Nat) : c.wideCost n = if c.pcBits = .w16 then n else n + 1 := by
  rw [Config.wideCost]
  cases c.pcBits <;> rfl

/-- The Device after a call with room, `m` being SRAM with the return address (R251). -/
def called (c : Config) (d : Device) (target cycles : Nat) (m : Memory) : Device :=
  { d.jumped target cycles with sram := m, sp := BitVec.ofNat 16 (d.sp.toNat - c.pcBits.raBytes) }

theorem sp_sub_raBytes {c : Config} {sp : Word} (h : pushRoom c sp) :
    sp - BitVec.ofNat 16 c.pcBits.raBytes = BitVec.ofNat 16 (sp.toNat - c.pcBits.raBytes) := by
  obtain ⟨hlow, -⟩ := h
  cases c.pcBits <;> simp only [PcBits.raBytes] at hlow ⊢ <;> bv_omega

theorem called_sp_toNat {c : Config} {d : Device} (h : pushRoom c d.sp) (target cycles : Nat) (m : Memory) :
    (called c d target cycles m).sp.toNat + c.pcBits.raBytes = d.sp.toNat := by
  obtain ⟨hlow, -⟩ := h
  have hsp : (called c d target cycles m).sp = BitVec.ofNat 16 (d.sp.toNat - c.pcBits.raBytes) := rfl
  rw [hsp, BitVec.toNat_ofNat]
  omega

/-- A call of `len` words whose target is settled (R251). -/
theorem callCase_of_call {len target cycles : Nat} {words t : ProgAddr} (hwf : Memory.wf .sram s.dev.sram = true)
    (hlen : words.toNat = len) (ht : t.toNat = target)
    (h : exec i s = s.retire (s.dev.call s.cfg words t cycles)) : CallCase i s len target cycles := by
  rw [call, wrapPc_pc_add_eq_nextPc _ _ hlen] at h
  refine ⟨fun hroom => ?_, fun hroom => ?_⟩
  · obtain ⟨m, hm⟩ := exists_pushRA_ok hroom (nextPc s.cfg s.dev.pc len)
    obtain ⟨hframe, hkeeps⟩ := pushBytes_frame hm
    have hpushed : Pushed s.cfg s.dev m _ := pushed_of_pushRA hm hwf
    have hcalled : m.jumpTo t cycles = called s.cfg s.dev target cycles m.sram := by
      rw [jumpTo_eq_jumped ht, hframe, length_raBytesOf, sp_sub_raBytes hroom]
      rfl
    rw [nextPc_toNat] at hpushed
    rw [hm] at h
    have hcompletes : Completes i s (called s.cfg s.dev target cycles m.sram) :=
      hcalled ▸ completes_of_retire_ok h
    exact ⟨m.sram, hkeeps hwf, hcompletes, hpushed⟩
  · rw [pushRA_eq_error hroom] at h
    exact halts_of_retire_error h

/-- A call that checks its target first (R250, R409). -/
theorem callCase_of_checkedCall {len target cycles : Nat} {words : ProgAddr}
    (hwf : Memory.wf .sram s.dev.sram = true) (hlen : words.toNat = len)
    (h : exec i s = s.retire (match checkTarget s.cfg target with
      | .ok t => s.dev.call s.cfg words t cycles
      | .error e => .error e)) :
    (target < s.cfg.pcModulus → CallCase i s len target cycles) ∧
    (s.cfg.pcModulus ≤ target → Halts i s (.bus .fetch (2 * target))) := by
  refine ⟨fun hlt => ?_, fun hle => ?_⟩
  · have htarget := (checkTarget_lt (checkTarget_of_lt hlt)).1
    rw [checkTarget_of_lt hlt] at h
    exact callCase_of_call hwf hlen htarget h
  · rw [checkTarget_of_le hle] at h
    exact halts_of_retire_error h

/-! ### Returns -/

/-- The Device after RET's pops and jump (R260). -/
def returned (c : Config) (d : Device) : Device :=
  { d.jumped (stackedRA c d) (if c.pcBits = .w16 then 4 else 5) with
    sp := BitVec.ofNat 16 (d.sp.toNat + c.pcBits.raBytes) }

/-- With room on the stack, RET checks the stacked address (R260). -/
theorem returnTo_of_room {c : Config} {d : Device} (hroom : popRoom c d.sp) :
    d.returnTo c = (checkTarget c (stackedRA c d)).map fun t =>
      (d.setSp (BitVec.ofNat 16 (d.sp.toNat + c.pcBits.raBytes))).jumpTo t (c.wideCost 4) := by
  rw [returnTo, popRA_eq_ok hroom]

theorem returnTo_eq_ok {c : Config} {d : Device} (hroom : popRoom c d.sp) (hlt : stackedRA c d < c.pcModulus) :
    d.returnTo c = .ok (returned c d) := by
  rw [returnTo_of_room hroom, checkTarget_of_lt hlt, wideCost_eq]
  rfl

theorem returnTo_eq_error_of_target {c : Config} {d : Device} (hroom : popRoom c d.sp)
    (hle : c.pcModulus ≤ stackedRA c d) : d.returnTo c = .error (.bus .fetch (2 * stackedRA c d)) := by
  rw [returnTo_of_room hroom, checkTarget_of_le hle]
  rfl

theorem returnTo_eq_error_of_pop {c : Config} {d : Device} (hroom : ¬ popRoom c d.sp) :
    d.returnTo c = .error (.stack .pop (popFaultAt d.sp)) := by
  rw [returnTo, popRA_eq_error hroom]

theorem exec_ret (s : State) : exec .ret s = s.retire (s.dev.returnTo s.cfg) := rfl

theorem ret_completes (hroom : popRoom s.cfg s.dev.sp) (hlt : stackedRA s.cfg s.dev < s.cfg.pcModulus) :
    Completes .ret s (returned s.cfg s.dev) :=
  completes_of_retire_ok (congrArg s.retire (returnTo_eq_ok hroom hlt))

theorem exec_reti (s : State) : exec .reti s = s.retire ((s.dev.returnTo s.cfg).map fun d =>
    { d with sreg := setBit d.sreg 7 true, inhibit := true }) := rfl

theorem reti_completes (hroom : popRoom s.cfg s.dev.sp) (hlt : stackedRA s.cfg s.dev < s.cfg.pcModulus) :
    Completes .reti s { returned s.cfg s.dev with sreg := setBit s.dev.sreg 7 true, inhibit := true } := by
  apply completes_of_retire_ok
  rw [exec_reti, returnTo_eq_ok hroom hlt]
  rfl

/-- RET and RETI raise the same faults (R261). -/
theorem halts_of_returnTo {e : FaultDetail} (h : s.dev.returnTo s.cfg = .error e) :
    Halts .ret s e ∧ Halts .reti s e := by
  refine ⟨halts_of_retire_error ?_, halts_of_retire_error ?_⟩
  · rw [exec_ret, h]
  · rw [exec_reti, h]
    rfl

/-! ### A call and RET after it (R99) -/

/-- The pops take up the bytes the pushes laid down. -/
theorem stackedRA_of_pushed {c : Config} {d e : Device} {ra : Nat} (hra : ra < c.pcModulus) (hroom : pushRoom c d.sp)
    (h : Pushed c d e ra) (hsp : e.sp.toNat + c.pcBits.raBytes = d.sp.toNat) : stackedRA c e = ra := by
  obtain ⟨hlow, -⟩ := hroom
  have hfirst : e.sramByte d.sp.toNat = BitVec.ofNat 8 ra := by rw [h, if_pos rfl]
  have hsecond : e.sramByte (d.sp.toNat - 1) = BitVec.ofNat 8 (ra / 256) := by
    rw [h, if_neg (by omega), if_pos rfl]
  have hthird (h3 : c.pcBits.raBytes = 3) : e.sramByte (d.sp.toNat - 2) = BitVec.ofNat 8 (ra / 65536) := by
    rw [h, if_neg (by omega), if_neg (by omega), if_pos ⟨h3, rfl⟩]
  rw [stackedRA]
  rw [Config.pcModulus] at hra
  cases hc : c.pcBits <;> rw [hc] at hsp hra hthird <;> simp only [PcBits.raBytes, PcBits.bits] at hsp hra hthird ⊢
  case w16 =>
    rw [show e.sp.toNat + 1 = d.sp.toNat - 1 by omega, show e.sp.toNat + 2 = d.sp.toNat by omega, hfirst, hsecond,
      BitVec.toNat_ofNat, BitVec.toNat_ofNat]
    omega
  case w17 =>
    rw [show e.sp.toNat + 1 = d.sp.toNat - 2 by omega, show e.sp.toNat + 2 = d.sp.toNat - 1 by omega,
      show e.sp.toNat + 3 = d.sp.toNat by omega, hfirst, hsecond, hthird trivial,
      BitVec.toNat_ofNat, BitVec.toNat_ofNat, BitVec.toNat_ofNat]
    omega

/-- A call that does not halt the Device left its return address where RET finds it. -/
theorem ret_of_callCase {t : State} {len target cycles : Nat} (hcase : CallCase i s len target cycles)
    (ht : exec i s = .next t) (hruns : t.dev.isHalted = false) :
    ∃ u, exec .ret t = .next u ∧ u.dev.isHalted = false ∧ u.dev.pc = nextPc s.cfg s.dev.pc len ∧
      u.dev.sp = s.dev.sp ∧ u.dev.regs = s.dev.regs ∧ u.dev.sreg = s.dev.sreg := by
  obtain ⟨hcompletes, hhalts⟩ := hcase
  by_cases hroom : pushRoom s.cfg s.dev.sp
  · obtain ⟨m, -, hdone, hpushed⟩ := hcompletes hroom
    cases ht.symm.trans hdone
    have hra : (s.dev.pc.toNat + len) % s.cfg.pcModulus < s.cfg.pcModulus := Nat.mod_lt _ (Nat.two_pow_pos _)
    have hsp := called_sp_toNat hroom target cycles m
    have hstacked : stackedRA s.cfg (called s.cfg s.dev target cycles m) = _ :=
      stackedRA_of_pushed hra hroom hpushed hsp
    have hpop : popRoom s.cfg (called s.cfg s.dev target cycles m).sp := by
      obtain ⟨hlow, hhigh⟩ := hroom
      exact ⟨by omega, hsp.trans_le hhigh⟩
    have hback : BitVec.ofNat 16 ((called s.cfg s.dev target cycles m).sp.toNat + s.cfg.pcBits.raBytes) = s.dev.sp := by
      rw [hsp, BitVec.ofNat_toNat, BitVec.setWidth_eq]
    exact ⟨_, ret_completes hpop (hstacked.trans_lt hra), hruns, congrArg (BitVec.ofNat 17) hstacked, hback, rfl, rfl⟩
  · cases ht.symm.trans (hhalts hroom)
    cases hruns

end

end Sys2Proof.Machine
end

section
/-! The statements of 41_branch.md. -/

namespace Sys2Proof.Machine

/-- Settles O3: the flags are those of the difference, read off the sum that undoes it, and no register is written. -/
theorem compareResult : Obligations.CompareResult := by
  unfold Obligations.CompareResult
  exact fun s d r k => ⟨cmpCase_of_subFlags rfl, cmpCase_of_subFlagsZ rfl, cmpCase_of_subFlags rfl,
    form_fRR 0b000101 ⟨rfl, rfl, rfl⟩, form_fRR 0b000001 ⟨rfl, rfl, rfl⟩, form_fRK 0b0011 ⟨rfl, rfl, rfl⟩⟩

/-- Settles O11: a relative target is taken modulo M, and a branch not taken passes one word. -/
theorem relativeJumps : Obligations.RelativeJumps := by
  unfold Obligations.RelativeJumps
  exact fun s k j f => ⟨completes_of_jumpTo (relTarget_eq_relative s k (by decide)) rfl,
    completes_of_branchIf Iff.rfl rfl, completes_of_branchIf (Bool.not_eq_true' _).to_iff rfl⟩

/-- Settles O12: Z is always below M; the other targets are checked first. -/
theorem absoluteJumps : Obligations.AbsoluteJumps := by
  unfold Obligations.AbsoluteJumps
  intro s k
  have hext : extended s = s.dev.extTarget := (Device.extTarget_toNat s.dev).symm
  rw [hext]
  exact ⟨completes_of_jumpTo (ptrTarget_toNat s.dev .z) rfl, jumpCase_of_checkTarget rfl, jumpCase_of_checkTarget rfl⟩

/-- Settles O13: each call is one push of the return address and a jump, after the target's check if it has one. -/
theorem callResult : Obligations.CallResult := by
  unfold Obligations.CallResult
  intro s k t hwf short
  have hshort : s.cfg.wideCost 3 = short := wideCost_eq s.cfg 3
  have hlong : s.cfg.wideCost 4 = short + 1 := by
    rw [wideCost_eq]
    unfold short
    split <;> rfl
  have hext : extended s = s.dev.extTarget := (Device.extTarget_toNat s.dev).symm
  have heicall := callCase_of_checkedCall (i := .eicall) (words := 1) hwf rfl rfl
  have hcall := callCase_of_checkedCall (i := .call t) (words := 2) hwf rfl rfl
  rw [hext, ← hlong, ← hshort]
  exact ⟨callCase_of_call hwf rfl (relTarget_eq_relative s k (by decide)) rfl,
    callCase_of_call hwf rfl (ptrTarget_toNat s.dev .z) rfl, heicall.1, heicall.2, hcall.1, hcall.2⟩

/-- Settles O14: RET is the pops, then the check of what they read; RETI adds SREG.I and `inhibit`. -/
theorem returnResult : Obligations.ReturnResult := by
  unfold Obligations.ReturnResult
  intro s back
  refine ⟨fun hroom hlt => ?_, fun hroom hle => ?_, fun hroom => ?_⟩
  · exact ⟨ret_completes hroom hlt, setBit s.dev.sreg 7 true, fun k _ => bitOf_setBit _ 7 k true (by decide),
      reti_completes hroom hlt⟩
  · exact halts_of_returnTo (returnTo_eq_error_of_target hroom hle)
  · exact halts_of_returnTo (returnTo_eq_error_of_pop hroom)

/-- Settles O15: by what each call leaves on the stack (`CallResult`). -/
theorem callThenReturn : Obligations.CallThenReturn := by
  unfold Obligations.CallThenReturn
  intro s t i k x hi hwf ht hruns
  obtain ⟨hrcall, hicall, heicall, heicallHalts, hcall, hcallHalts⟩ := callResult s k x hwf
  have hstopped {e : FaultDetail} (h : Halts i s e) : False := by
    cases ht.symm.trans h
    cases hruns
  rcases hi with rfl | rfl | rfl | rfl
  · exact ret_of_callCase hrcall ht hruns
  · exact ret_of_callCase hicall ht hruns
  · rcases Nat.lt_or_ge (extended s) s.cfg.pcModulus with hlt | hle
    · exact ret_of_callCase (heicall hlt) ht hruns
    · exact (hstopped (heicallHalts hle)).elim
  · rcases Nat.lt_or_ge x.toNat s.cfg.pcModulus with hlt | hle
    · exact ret_of_callCase (hcall hlt) ht hruns
    · exact (hstopped (hcallHalts hle)).elim

/-- Settles O16: the three skips differ in their condition alone. -/
theorem skipResult : Obligations.SkipResult := by
  unfold Obligations.SkipResult
  exact fun s d r b => ⟨skipCase_of_skipIf rfl rfl beq_iff_eq rfl,
    skipCase_of_skipIf rfl rfl (Bool.not_eq_true' _).to_iff rfl, skipCase_of_skipIf rfl rfl Iff.rfl rfl⟩

/-- Settles O17: the read comes first, and its side effect leaves pc and program memory to the skip. -/
theorem ioSkipResult : Obligations.IoSkipResult := by
  unfold Obligations.IoSkipResult
  refine fun s a b => ⟨fun r hr => ⟨skipCase_of_skipOnIo hr rfl, skipCase_of_skipOnIo hr rfl⟩, fun hr => ?_⟩
  exact ⟨halts_of_retire_error (congrArg s.retire (skipOnIo_of_unclaimed hr s.cfg b false)),
    halts_of_retire_error (congrArg s.retire (skipOnIo_of_unclaimed hr s.cfg b true))⟩

end Sys2Proof.Machine
end

section
/-! SUPPORT. Data space by region (R81, R82, R88, R89, R93): what an access to a register, to a claimed address of the
I/O window, to SRAM and to an unmapped address answers. -/

namespace Sys2Proof.Machine

/-- Every claimed address lies in the I/O window (R60). -/
theorem window_of_ioReg {a : Nat} {r : IoReg} (h : ioReg a = some r) : 0x20 ≤ a ∧ a ≤ 0x1FF := by
  obtain ⟨l, l', hmap, -⟩ := List.lookup_eq_some_iff.mp h
  have hmem : (a, r) ∈ ioMap := by simp [hmap]
  have hall : ∀ cell ∈ ioMap, 0x20 ≤ cell.1 ∧ cell.1 ≤ 0x1FF := by decide
  exact hall _ hmem

namespace Device

section
variable {d : Device} {a : Nat} {r : IoReg}

theorem ioRead_of_claimed (h : ioReg a = some r) : d.ioRead a = .ok (d.ioValue r, d.afterIoRead r) := by
  rw [ioRead, h]

theorem ioRead_of_unclaimed (h : ioReg a = none) : d.ioRead a = .error (.bus .read a) := by
  rw [ioRead, h]

theorem ioWrite_of_claimed (h : ioReg a = some r) (v mask : Byte) : d.ioWrite a v mask = d.ioStore v mask r := by
  rw [ioWrite, h]

theorem ioWrite_of_unclaimed (h : ioReg a = none) (v mask : Byte) : d.ioWrite a v mask = .error (.bus .write a) := by
  rw [ioWrite, h]

end

section
variable {d : Device} {a : Word} {r : IoReg}

theorem memRead_of_register (h : a.toNat ≤ 0x1F) : d.memRead a = .ok (d.reg (Fin.ofNat 32 a.toNat), d) :=
  if_pos h

theorem memRead_of_claimed (h : ioReg a.toNat = some r) : d.memRead a = .ok (d.ioValue r, d.afterIoRead r) := by
  obtain ⟨hlow, hhigh⟩ := window_of_ioReg h
  rw [memRead, if_neg (by omega), if_pos hhigh, ioRead_of_claimed h]

theorem memRead_of_sram (hlow : 0x200 ≤ a.toNat) (hhigh : a.toNat ≤ 0x21FF) :
    d.memRead a = .ok (d.sramByte a.toNat, d) := by
  rw [memRead, if_neg (by omega), if_neg (by omega), if_pos hhigh]

theorem memRead_of_unmapped (h : unmapped a.toNat) : d.memRead a = .error (.bus .read a.toNat) := by
  rcases h with hbeyond | ⟨hlow, hhigh, hnone⟩
  · rw [memRead, if_neg (by omega), if_neg (by omega), if_neg (by omega)]
  · rw [memRead, if_neg (by omega), if_pos hhigh, ioRead_of_unclaimed hnone]

theorem memWrite_of_register (h : a.toNat ≤ 0x1F) (v : Byte) :
    d.memWrite a v = .ok (d.setReg (Fin.ofNat 32 a.toNat) v) := if_pos h

theorem memWrite_of_claimed (h : ioReg a.toNat = some r) (v : Byte) : d.memWrite a v = d.ioStore v 0xFF r := by
  obtain ⟨hlow, hhigh⟩ := window_of_ioReg h
  rw [memWrite, if_neg (by omega), if_pos hhigh, ioWrite_of_claimed h]

theorem memWrite_of_sram (hlow : 0x200 ≤ a.toNat) (hhigh : a.toNat ≤ 0x21FF) (v : Byte) :
    d.memWrite a v = .ok (d.setSramByte a.toNat v) := by
  rw [memWrite, if_neg (by omega), if_neg (by omega), if_pos hhigh]

theorem memWrite_of_unmapped (h : unmapped a.toNat) (v : Byte) : d.memWrite a v = .error (.bus .write a.toNat) := by
  rcases h with hbeyond | ⟨hlow, hhigh, hnone⟩
  · rw [memWrite, if_neg (by omega), if_neg (by omega), if_neg (by omega)]
  · rw [memWrite, if_neg (by omega), if_pos hhigh, ioWrite_of_unclaimed hnone]

end

end Device

end Sys2Proof.Machine
end

section
/-! SUPPORT. Loads and stores (R300, R304 to R323): the four pointer forms by numbers, and the shapes of the statements
from the access an instruction makes. -/

namespace Sys2Proof.Machine

open Device

/-! ### The pointer forms (R300) -/

/-- The indirect mode of P accesses the data address `a` and updates P as `upd` does. -/
structure ModeIs (s : State) (p : Ptr) (mode : PtrMode) (a : Word) (upd : Device → Device) : Prop where
  addr : s.dev.ptrAddr p mode = a
  update (d : Device) : d.ptrUpdate p (s.dev.ptr p) mode = upd d

section
variable (s : State) (p : Ptr)

theorem ptr_eq_dataAddr : s.dev.ptr p = dataAddr (ptrInt s p) := eq_ofInt_word (by rw [ptrInt]; omega)

theorem ptr_add_one_eq_dataAddr : s.dev.ptr p + 1 = dataAddr (ptrInt s p + 1) :=
  eq_ofInt_word (by rw [ptrInt, BitVec.toNat_add]; rfl)

theorem ptr_sub_one_eq_dataAddr : s.dev.ptr p - 1 = dataAddr (ptrInt s p - 1) :=
  eq_ofInt_word (by rw [ptrInt]; bv_omega)

theorem ptr_add_disp_eq_dataAddr (q : BitVec 6) :
    s.dev.ptr p + q.setWidth 16 = dataAddr (ptrInt s p + q.toNat) :=
  eq_ofInt_word (by
    rw [ptrInt, BitVec.toNat_add, BitVec.toNat_setWidth_of_le (by decide)]
    rfl)

theorem modeIs_plain : ModeIs s p .plain (dataAddr (ptrInt s p)) id := ⟨ptr_eq_dataAddr s p, fun _ => rfl⟩

theorem modeIs_postInc : ModeIs s p .postInc (dataAddr (ptrInt s p)) (moveTo p (ptrInt s p + 1)) :=
  ⟨ptr_eq_dataAddr s p, fun d => congrArg (d.setPtr p) (ptr_add_one_eq_dataAddr s p)⟩

theorem modeIs_preDec : ModeIs s p .preDec (dataAddr (ptrInt s p - 1)) (moveTo p (ptrInt s p - 1)) :=
  ⟨ptr_sub_one_eq_dataAddr s p, fun d => congrArg (d.setPtr p) (ptr_sub_one_eq_dataAddr s p)⟩

theorem modeIs_disp (q : BitVec 6) : ModeIs s p (.disp q) (dataAddr (ptrInt s p + q.toNat)) id :=
  ⟨ptr_add_disp_eq_dataAddr s p q, fun _ => rfl⟩

end

section
variable {i : Instr} {s : State} {a : Word} {upd : Device → Device} {words : Nat}

/-! ### Loads -/

/-- A load is one read of data space (R88), then `f`: the pointer's update, the register, the end. -/
theorem loadCase_of_memRead {rd : Reg} {f : Byte × Device → Device}
    (hf : ∀ v d, f (v, d) = ((upd d).setReg rd v).past s.cfg words 2)
    (h : exec i s = s.retire ((s.dev.memRead a).map f)) : LoadCase i s rd a upd words := by
  have hreads {v : Byte} {d : Device} (hm : s.dev.memRead a = .ok (v, d)) :
      Completes i s (((upd d).setReg rd v).past s.cfg words 2) := by
    rw [hm] at h
    exact hf v d ▸ completes_of_retire_ok h
  refine ⟨fun ha => hreads (memRead_of_register ha), fun r hr => hreads (memRead_of_claimed hr),
    fun hlow hhigh => hreads (memRead_of_sram hlow hhigh), fun ha => ?_⟩
  rw [memRead_of_unmapped ha] at h
  exact halts_of_retire_error h

/-- LDS (R304). -/
theorem loadCase_of_loadFrom {rd : Reg} (h : exec i s = s.retire (s.dev.loadFrom s.cfg rd a 2)) :
    LoadCase i s rd a id 2 :=
  loadCase_of_memRead (fun _ _ => advance_two ..) h

/-- LD and LDD (R305 to R313). -/
theorem loadCase_of_load {rd : Reg} {p : Ptr} {mode : PtrMode} (hmode : ModeIs s p mode a upd)
    (h : exec i s = s.retire (s.dev.load s.cfg rd p mode)) : LoadCase i s rd a upd 1 := by
  rw [load, hmode.addr] at h
  exact loadCase_of_memRead (fun _ d => by rw [← hmode.update d, ← advance_one]; rfl) h

/-! ### Stores -/

/-- A store is one write of data space (R89), then `f`: the pointer's update, the end. -/
theorem storeCase_of_memWrite {rr : Reg} {f : Device → Device} (hf : ∀ d, f d = (upd d).past s.cfg words 2)
    (h : exec i s = s.retire ((s.dev.memWrite a (s.dev.reg rr)).map f)) : StoreCase i s rr a upd words := by
  have hwrites {d : Device} (hm : s.dev.memWrite a (s.dev.reg rr) = .ok d) :
      Completes i s ((upd d).past s.cfg words 2) := by
    rw [hm] at h
    exact hf d ▸ completes_of_retire_ok h
  have hfaults {e : FaultDetail} (hm : s.dev.memWrite a (s.dev.reg rr) = .error e) : Halts i s e := by
    rw [hm] at h
    exact halts_of_retire_error h
  exact ⟨fun ha => hwrites (memWrite_of_register ha _),
    fun r d hr hd => hwrites ((memWrite_of_claimed hr _).trans hd),
    fun r e hr he => hfaults ((memWrite_of_claimed hr _).trans he),
    fun hlow hhigh => hwrites (memWrite_of_sram hlow hhigh _), fun ha => hfaults (memWrite_of_unmapped ha _)⟩

/-- STS (R314). -/
theorem storeCase_of_storeTo {rr : Reg} (h : exec i s = s.retire (s.dev.storeTo s.cfg rr a 2)) :
    StoreCase i s rr a id 2 :=
  storeCase_of_memWrite (fun _ => advance_two ..) h

/-- ST and STD (R315 to R323). -/
theorem storeCase_of_store {rr : Reg} {p : Ptr} {mode : PtrMode} (hmode : ModeIs s p mode a upd)
    (h : exec i s = s.retire (s.dev.store s.cfg rr p mode)) : StoreCase i s rr a upd 1 := by
  rw [store, hmode.addr] at h
  exact storeCase_of_memWrite (fun d => by rw [← hmode.update d, ← advance_one]; rfl) h

end

end Sys2Proof.Machine
end

section
/-! SUPPORT. The program memory reads (R330 to R336) and MOVW (R302): the shapes of their statements. -/

namespace Sys2Proof.Machine

open Device Encode
open Sys2Proof.Instr (evenReg)

/-! ### LPM and ELPM (R330 to R336) -/

/-- A read of a program byte that exists completes, of another it halts the Device (R84). -/
theorem progLoadCase_of_loadProg {i : Instr} {s : State} {rd : Reg} {a : Nat} {after upd : Device → Device}
    (hupd : after s.dev = upd s.dev) (h : exec i s = s.retire (s.dev.loadProg s.cfg rd a after)) :
    ProgLoadCase i s rd a upd := by
  rw [loadProg] at h
  refine ⟨fun hlt => ?_, fun hle => ?_⟩
  · rw [progRead, if_pos hlt] at h
    rw [← hupd, ← advance_one]
    exact completes_of_retire_ok h
  · rw [progRead, if_neg (Nat.not_lt.mpr hle)] at h
    exact halts_of_retire_error h

/-- RAMPZ[1:0] and Z as the two parts of an 18-bit address (R336). -/
theorem setExtAddr_eq_elpmMoved (d : Device) (e : BitVec 18) : d.setExtAddr e = elpmMoved e.toNat d := by
  have hrampz : d.ctl.rampz.extractLsb' 2 6 ++ e.extractLsb' 16 2 =
      BitVec.ofNat 8 (4 * (d.ctl.rampz.toNat / 4) + e.toNat / 65536 % 4) := by
    apply BitVec.eq_of_toNat_eq
    rw [toNat_append_eq, BitVec.extractLsb'_toNat, BitVec.extractLsb'_toNat, Nat.shiftRight_eq_div_pow,
      Nat.shiftRight_eq_div_pow, BitVec.toNat_ofNat]
    omega
  have hz : e.extractLsb' 0 16 = BitVec.ofNat 16 e.toNat := rfl
  rw [setExtAddr, elpmMoved, hrampz, hz]

/-! ### MOVW (R302, R129) -/

theorem pair_low (d : Device) (r : Reg) : (d.pair r).extractLsb' 0 8 = d.reg r :=
  BitVec.extractLsb'_append_eq_right

theorem pair_high (d : Device) (r : Reg) : (d.pair r).extractLsb' 8 8 = d.reg (r + 1) :=
  BitVec.extractLsb'_append_eq_left

theorem form_fMOVW {i : Instr} {d r : Reg} (h : OneWord i (evenReg d && evenReg r) (fMOVW d r)) :
    Form i (d.val % 2 = 0 ∧ r.val % 2 = 0) (0x0100 + 16 * (d.val / 2) + r.val / 2) :=
  form_of_oneWord h (by simp [evenReg, Bool.beq_eq_decide_eq]) fun _ => by
    simp only [fMOVW, pair4, toNat_append_eq, BitVec.toNat_ofNat, BitVec.reduceToNat]
    omega

end Sys2Proof.Machine
end

section
/-! SUPPORT. The I/O window: what a read does (R94, R490, R491), and how IN and OUT end (R338, R339). -/

namespace Sys2Proof.Machine

open Device

/-! ### Reads -/

theorem readEffect (d : Device) : ReadEffect d := by
  refine ⟨rfl, rfl, fun _ => rfl, fun r hudr0 hpin => ?_⟩
  cases r with
  | udr0 => exact absurd rfl hudr0
  | pin p => exact absurd rfl (hpin p)
  | _ => rfl

theorem ucsr0aBits (d : Device) : Ucsr0aBits d := by
  have hzero : (0 : BitVec 1) = BitVec.ofBool false := rfl
  refine ⟨?_, ?_, ?_, ?_, ?_, ?_, ?_, ?_⟩ <;>
    simp only [ioValue, Usart0.ucsr0a, Usart0.udre, bitOf, hzero, getLsbD_append_ofBool, BitVec.getLsbD_ofBool,
      Nat.reduceSub, OfNat.ofNat_ne_zero, one_ne_zero, reduceIte, decide_true, Bool.true_and]

/-! ### IN and OUT (R338, R339) -/

section
variable {s : State} {a : BitVec 6} {d : Reg} {r : IoReg}

theorem exec_ioIn (d : Reg) (a : BitVec 6) (s : State) : exec (.ioIn d a) s = execIn d a s := rfl

theorem exec_ioOut (a : BitVec 6) (r : Reg) (s : State) : exec (.ioOut a r) s = execOut a r s := rfl

theorem ioIn_completes (hr : ioReg (a.toNat + 0x20) = some r) :
    Completes (.ioIn d a) s (((s.dev.afterIoRead r).setReg d (s.dev.ioValue r)).past s.cfg 1 1) := by
  apply completes_of_retire_ok
  rw [exec_ioIn, execIn, ioAddr, ioRead_of_claimed hr, ← advance_one]
  rfl

theorem ioIn_halts (hr : ioReg (a.toNat + 0x20) = none) : Halts (.ioIn d a) s (.bus .read (a.toNat + 0x20)) := by
  apply halts_of_retire_error
  rw [exec_ioIn, execIn, ioAddr, ioRead_of_unclaimed hr]
  rfl

theorem ioOut_completes {x : Device} (h : s.dev.ioWrite (a.toNat + 0x20) (s.dev.reg d) 0xFF = .ok x) :
    Completes (.ioOut a d) s (x.past s.cfg 1 1) := by
  apply completes_of_retire_ok
  rw [exec_ioOut, execOut, ioAddr, h, ← advance_one]
  rfl

theorem ioOut_halts {e : FaultDetail} (h : s.dev.ioWrite (a.toNat + 0x20) (s.dev.reg d) 0xFF = .error e) :
    Halts (.ioOut a d) s e := by
  apply halts_of_retire_error
  rw [exec_ioOut, execOut, ioAddr, h]
  rfl

end

end Sys2Proof.Machine
end

section
/-! The statements of 42_data_transfer.md. -/

namespace Sys2Proof.Machine

open Device

/-- Settles O19: each form is one read of data space at its mode's address, with its mode's update. -/
theorem loadResult : Obligations.LoadResult := by
  unfold Obligations.LoadResult
  intro s d k q x y z
  exact ⟨loadCase_of_loadFrom rfl, loadCase_of_load (modeIs_plain s .x) rfl, loadCase_of_load (modeIs_postInc s .x) rfl,
    loadCase_of_load (modeIs_preDec s .x) rfl, loadCase_of_load (modeIs_plain s .y) rfl,
    loadCase_of_load (modeIs_postInc s .y) rfl, loadCase_of_load (modeIs_preDec s .y) rfl,
    loadCase_of_load (modeIs_disp s .y q) rfl, loadCase_of_load (modeIs_plain s .z) rfl,
    loadCase_of_load (modeIs_postInc s .z) rfl, loadCase_of_load (modeIs_preDec s .z) rfl,
    loadCase_of_load (modeIs_disp s .z q) rfl⟩

/-- Settles O20: each form is one write of data space at its mode's address, with its mode's update. -/
theorem storeResult : Obligations.StoreResult := by
  unfold Obligations.StoreResult
  intro s r k q x y z
  exact ⟨storeCase_of_storeTo rfl, storeCase_of_store (modeIs_plain s .x) rfl,
    storeCase_of_store (modeIs_postInc s .x) rfl, storeCase_of_store (modeIs_preDec s .x) rfl,
    storeCase_of_store (modeIs_plain s .y) rfl, storeCase_of_store (modeIs_postInc s .y) rfl,
    storeCase_of_store (modeIs_preDec s .y) rfl, storeCase_of_store (modeIs_disp s .y q) rfl,
    storeCase_of_store (modeIs_plain s .z) rfl, storeCase_of_store (modeIs_postInc s .z) rfl,
    storeCase_of_store (modeIs_preDec s .z) rfl, storeCase_of_store (modeIs_disp s .z q) rfl⟩

/-- Settles O21: one read of program memory each, at Z or at {RAMPZ[1:0], Z}, which moves on modulo 2^18. -/
theorem programMemoryAccess : Obligations.ProgramMemoryAccess := by
  unfold Obligations.ProgramMemoryAccess
  intro s d z e
  have he : e = s.dev.extAddr.toNat := (extAddr_toNat s.dev).symm
  have hmoved : s.dev.setExtAddr (s.dev.extAddr + 1) = elpmMoved ((e + 1) % 262144) s.dev := by
    rw [setExtAddr_eq_elpmMoved, BitVec.toNat_add, he]
    rfl
  rw [he] at hmoved ⊢
  exact ⟨progLoadCase_of_loadProg rfl rfl, progLoadCase_of_loadProg rfl rfl,
    progLoadCase_of_loadProg ((modeIs_postInc s .z).update s.dev) rfl, progLoadCase_of_loadProg rfl rfl,
    progLoadCase_of_loadProg rfl rfl, progLoadCase_of_loadProg hmoved rfl, halts_of_retire_error rfl⟩

/-- Settles O18: each writes what was read before; MOVW's pair is its two registers. -/
theorem moveResult : Obligations.MoveResult := by
  unfold Obligations.MoveResult
  intro s d r k
  simp only [← advance_one]
  refine ⟨completes_of_retire_ok rfl, ?_, completes_of_retire_ok rfl, form_fRR 0b001011 ⟨rfl, rfl, rfl⟩,
    form_fMOVW ⟨rfl, rfl, rfl⟩, form_fRK 0b1110 ⟨rfl, rfl, rfl⟩⟩
  rw [← pair_low s.dev r, ← pair_high s.dev r]
  exact completes_of_retire_ok rfl

/-- Settles O22: by the register that claims A + 0x20, if one does; and what a read of it does. -/
theorem inOutResult : Obligations.InOutResult := by
  unfold Obligations.InOutResult
  refine fun s d a => ⟨fun r hr => ⟨ioIn_completes hr, ?stored, ?refused⟩,
    fun hnone => ⟨ioIn_halts hnone, ioOut_halts (ioWrite_of_unclaimed hnone _ _)⟩, readEffect s.dev, ucsr0aBits s.dev⟩
  case stored => exact fun x hx => ioOut_completes ((ioWrite_of_claimed hr _ _).trans hx)
  case refused => exact fun e he => ioOut_halts ((ioWrite_of_claimed hr _ _).trans he)

end Sys2Proof.Machine
end

section
/-! SUPPORT. The bytes of 43_bit_test.md: the results of the shifts and of SWAP as numbers (R360 to R363), and what a
masked store of one bit leaves in a register (R92). -/

namespace Sys2Proof.Machine

/-! ### Shifts and SWAP -/

theorem bitOf_zero_eq_flag (v : Byte) : bitOf v 0 = flag (v.toNat % 2 = 1) := Nat.testBit_zero v.toNat

/-- A byte shifted right by one, with `c` as its new bit 7. -/
def shiftedIn (c : Bool) (a : Byte) : Byte := BitVec.ofBool c ++ a.extractLsb' 1 7

theorem shiftedIn_toNat (c : Bool) (a : Byte) : (shiftedIn c a).toNat = 128 * c.toNat + a.toNat / 2 := by
  rw [shiftedIn, toNat_append_eq, BitVec.toNat_ofBool, BitVec.extractLsb'_toNat, Nat.shiftRight_eq_div_pow]
  omega

theorem bitOf_shiftedIn (c : Bool) (a : Byte) {k : Nat} (hk : k < 8) :
    bitOf (shiftedIn c a) k = if k = 7 then c else bitOf a (k + 1) := by
  rw [bitOf, shiftedIn, BitVec.getLsbD_append]
  split_ifs with hlow h7 h7
  · omega
  · rw [BitVec.getLsbD_extractLsb', decide_eq_true hlow, Bool.true_and, Nat.add_comm]
    rfl
  · rw [h7, BitVec.getLsbD_ofBool]
    rfl
  · omega

theorem bitOf_ushiftRight_one (a : Byte) (k : Nat) : bitOf (a >>> 1) k = bitOf a (k + 1) := by
  rw [bitOf, BitVec.getLsbD_ushiftRight, Nat.add_comm]
  rfl

theorem bitOf_of_le (a : Byte) {k : Nat} (hk : 8 ≤ k) : bitOf a k = false := BitVec.getLsbD_of_ge a k hk

/-- LSR's result: 0 comes in (R360). -/
theorem ushiftRight_one_eq_shiftedIn (a : Byte) : a >>> 1 = shiftedIn false a := by
  refine byte_ext fun k hk => ?_
  rw [bitOf_ushiftRight_one, bitOf_shiftedIn _ _ hk]
  split_ifs with h7
  · exact bitOf_of_le a (by omega)
  · rfl

theorem bitOf_signMask {k : Nat} (hk : k < 8) : bitOf 0x80 k = flag (k = 7) := by
  revert k
  decide

/-- ASR's result: the old bit 7 comes in (R362). -/
theorem signKept_eq_shiftedIn (a : Byte) : (a &&& (0x80 : Byte)) ||| (a >>> 1) = shiftedIn (bitOf a 7) a := by
  refine byte_ext fun k hk => ?_
  rw [bitOf_or, bitOf_and, bitOf_signMask hk, bitOf_ushiftRight_one, bitOf_shiftedIn _ _ hk]
  split_ifs with h7
  · simp [h7, bitOf_of_le]
  · simp [h7]

/-- The exchange of the nibbles (R363). -/
theorem swap_eq_ofNat (a : Byte) :
    a.extractLsb' 0 4 ++ a.extractLsb' 4 4 = BitVec.ofNat 8 (16 * (a.toNat % 16) + a.toNat / 16) := by
  have hhigh : a.toNat / 16 < 16 := by omega
  apply BitVec.eq_of_toNat_eq
  simp only [toNat_append_eq, BitVec.extractLsb'_toNat, Nat.shiftRight_eq_div_pow, BitVec.toNat_ofNat, Nat.reducePow,
    Nat.div_one, Nat.mod_eq_of_lt hhigh]
  omega

/-! ### A masked store of one bit (R92) -/

theorem bitMask_eq_ofNat (b : Fin 8) : Device.bitMask b = BitVec.ofNat 8 (2 ^ b.val) := by
  revert b
  decide

theorem storeBits_mask (implemented old mask : Byte) :
    storeBits implemented old mask mask = old ||| (mask &&& implemented) := by
  refine byte_ext fun k _ => ?_
  rw [bitOf_storeBits, bitOf_or, bitOf_and]
  cases bitOf mask k <;> cases bitOf implemented k <;> simp

theorem zero_and_byte (v : Byte) : 0 &&& v = 0 := BitVec.zero_and

theorem storeBits_zero (implemented old mask : Byte) :
    storeBits implemented old 0 mask = old &&& ~~~(mask &&& implemented) := by
  rw [storeBits, zero_and_byte]
  exact BitVec.or_zero

theorem and_full (v : Byte) : v &&& 0xFF = v := BitVec.and_allOnes

end Sys2Proof.Machine
end

section
/-! SUPPORT. How the instructions of 43_bit_test.md end: the shifts' shape, and SBI and CBI on a claimed address and on an
unclaimed one (R366, R367), with the stores they make. -/

namespace Sys2Proof.Machine

open Device

section
variable {i : Instr} {s : State} {d : Reg}

theorem shiftCase_of_aluWrite {a r : Byte} {n : Nat} (hr : r.toNat = n)
    (h : exec i s = s.aluWrite d r (shiftFlags s.dev.sreg a r)) : ShiftCase i s d a n := by
  subst hr
  rw [ShiftCase, ← bitOf_seven, ← bitOf_zero_eq_flag, BitVec.ofNat_toNat, BitVec.setWidth_eq]
  exact ⟨_, sregIs_flagsSVNZC rfl rfl (beq_zero_eq_flag r) rfl, completes_of_aluWrite h⟩

theorem completes_of_sregWrite {f : Byte} (h : exec i s = s.sregWrite f) :
    Completes i s ((s.dev.setSreg f).past s.cfg 1 1) := by
  rw [← advance_one]
  exact completes_of_retire_ok h

end

/-! ### The registers in reach of SBI and CBI -/

/-- The registers with an I/O number below 32 (R52, R60). -/
def IoReg.bitAddressable : IoReg → Bool
  | .pin _ | .ddr _ | .port _ | .gpior0 | .tifr0 => true
  | _ => false

theorem mem_ioMap_of_ioReg {a : Nat} {r : IoReg} (h : ioReg a = some r) : (a, r) ∈ ioMap := by
  obtain ⟨l, l', hmap, -⟩ := List.lookup_eq_some_iff.mp h
  simp [hmap]

theorem bitAddressable_of_ioReg {a : Nat} {r : IoReg} (h : ioReg a = some r) (ha : a < 0x40) :
    r.bitAddressable = true := by
  have hall : ∀ cell ∈ ioMap, cell.1 < 0x40 → cell.2.bitAddressable = true := by decide
  exact hall _ (mem_ioMap_of_ioReg h) ha

/-- What SBI and CBI can find at their address. -/
theorem ioReg_cases_of_lt {a : Nat} (ha : a < 0x40) : ioReg a = none ∨ ioReg a = some .gpior0 ∨ ioReg a = some .tifr0 ∨
    ∃ p, ioReg a = some (.ddr p) ∨ ioReg a = some (.port p) ∨ ioReg a = some (.pin p) := by
  cases hr : ioReg a with
  | none => exact .inl rfl
  | some r =>
    have hreach := bitAddressable_of_ioReg hr ha
    cases r with
    | gpior0 => exact .inr (.inl rfl)
    | tifr0 => exact .inr (.inr (.inl rfl))
    | ddr p => exact .inr (.inr (.inr ⟨p, .inl rfl⟩))
    | port p => exact .inr (.inr (.inr ⟨p, .inr (.inl rfl)⟩))
    | pin p => exact .inr (.inr (.inr ⟨p, .inr (.inr rfl)⟩))
    | _ => cases hreach

/-! ### One bit stored, by the register's class (R92) -/

namespace Device

section
variable (d : Device) (p : PortName) (m : Byte)

theorem setPortRegs_portRegs : d.setPortRegs p (d.portRegs p) = d := by
  have hports : d.ports.set p.index (d.portRegs p) = d.ports := Vector.set_getElem_self p.index.isLt
  rw [setPortRegs, hports]

theorem ioStore_ddr_set : d.ioStore m m (.ddr p) =
    .ok (d.setPortRegs p { d.portRegs p with ddr := (d.portRegs p).ddr ||| (m &&& p.pins) }) := by
  rw [ioStore, writeDdr, storeBits_mask]

theorem ioStore_ddr_clear : d.ioStore 0 m (.ddr p) =
    .ok (d.setPortRegs p { d.portRegs p with ddr := (d.portRegs p).ddr &&& ~~~(m &&& p.pins) }) := by
  rw [ioStore, writeDdr, storeBits_zero]

theorem ioStore_port_set : d.ioStore m m (.port p) =
    .ok (d.setPortRegs p { d.portRegs p with port := (d.portRegs p).port ||| (m &&& p.pins) }) := by
  rw [ioStore, writePort, storeBits_mask]

theorem ioStore_port_clear : d.ioStore 0 m (.port p) =
    .ok (d.setPortRegs p { d.portRegs p with port := (d.portRegs p).port &&& ~~~(m &&& p.pins) }) := by
  rw [ioStore, writePort, storeBits_zero]

theorem ioStore_pin_set : d.ioStore m m (.pin p) =
    .ok (d.setPortRegs p { d.portRegs p with port := (d.portRegs p).port ^^^ (m &&& p.pins) }) := by
  rw [ioStore, togglePort, ← BitVec.and_assoc, BitVec.and_self]

/-- A 0 written to PINx toggles nothing (R53). -/
theorem ioStore_pin_clear : d.ioStore 0 m (.pin p) = .ok d := by
  have hkept : (d.portRegs p).port ^^^ (0 &&& (m &&& p.pins)) = (d.portRegs p).port := by
    rw [zero_and_byte]
    exact BitVec.xor_zero
  rw [ioStore, togglePort, hkept]
  exact congrArg Except.ok (d.setPortRegs_portRegs p)

theorem ioStore_gpior0_set :
    d.ioStore m m .gpior0 = .ok (d.setCtl { d.ctl with gpior0 := d.ctl.gpior0 ||| m }) := by
  rw [ioStore, storeBits_mask, and_full]

theorem ioStore_gpior0_clear :
    d.ioStore 0 m .gpior0 = .ok (d.setCtl { d.ctl with gpior0 := d.ctl.gpior0 &&& ~~~m }) := by
  rw [ioStore, storeBits_zero, and_full]

theorem ioStore_tifr0_set :
    d.ioStore m m .tifr0 = .ok (d.setTimer { d.timer with tifr0 := d.timer.tifr0 &&& ~~~(m &&& 0x07) }) := by
  rw [ioStore, Timer0.writeTifr0, ← BitVec.and_assoc, BitVec.and_self]

/-- A 0 written to a flag of TIFR0 keeps it (R48). -/
theorem ioStore_tifr0_clear : d.ioStore 0 m .tifr0 = .ok d := by
  have hkept : d.timer.tifr0 &&& ~~~(0 &&& (m &&& 0x07)) = d.timer.tifr0 := by
    rw [zero_and_byte]
    exact and_full _
  rw [ioStore, Timer0.writeTifr0, hkept]
  rfl

end

end Device

/-! ### SBI and CBI (R366, R367) -/

section
variable {s : State} {a : BitVec 5} {b : Fin 8}

theorem exec_sbi (a : BitVec 5) (b : Fin 8) (s : State) : exec (.sbi a b) s = execSbi a b s := rfl

theorem exec_cbi (a : BitVec 5) (b : Fin 8) (s : State) : exec (.cbi a b) s = execCbi a b s := rfl

/-- On a claimed address SBI stores a 1 and CBI a 0 under the mask of one bit. -/
theorem sbi_cbi_complete {r : IoReg} {x y : Device} (hr : ioReg (a.toNat + 0x20) = some r)
    (hset : s.dev.ioStore (BitVec.ofNat 8 (2 ^ b.val)) (BitVec.ofNat 8 (2 ^ b.val)) r = .ok x)
    (hclear : s.dev.ioStore 0 (BitVec.ofNat 8 (2 ^ b.val)) r = .ok y) :
    Completes (.sbi a b) s (x.past s.cfg 1 2) ∧ Completes (.cbi a b) s (y.past s.cfg 1 2) := by
  rw [← bitMask_eq_ofNat] at hset hclear
  refine ⟨completes_of_retire_ok ?_, completes_of_retire_ok ?_⟩
  · rw [exec_sbi, execSbi, ioAddr, ioWrite_of_claimed hr, hset, ← advance_one]
    rfl
  · rw [exec_cbi, execCbi, ioAddr, ioWrite_of_claimed hr, hclear, ← advance_one]
    rfl

theorem sbi_cbi_halt (hr : ioReg (a.toNat + 0x20) = none) :
    Halts (.sbi a b) s (.bus .write (a.toNat + 0x20)) ∧ Halts (.cbi a b) s (.bus .write (a.toNat + 0x20)) := by
  refine ⟨halts_of_retire_error ?_, halts_of_retire_error ?_⟩
  · rw [exec_sbi, execSbi, ioAddr, ioWrite_of_unclaimed hr]
    rfl
  · rw [exec_cbi, execCbi, ioAddr, ioWrite_of_unclaimed hr]
    rfl

end

end Sys2Proof.Machine
end

section
/-! The statements of 43_bit_test.md. -/

namespace Sys2Proof.Machine

open Device

/-- Settles O8: the three shifts differ in the bit that comes in at the top alone: 0, the old C, the old bit 7. -/
theorem shiftResult : Obligations.ShiftResult := by
  unfold Obligations.ShiftResult
  intro s d a
  have hlsr : (a >>> 1).toNat = a.toNat / 2 := by
    rw [ushiftRight_one_eq_shiftedIn, shiftedIn_toNat, Bool.toNat_false, Nat.mul_zero, Nat.zero_add]
  have hror : (shiftedIn s.dev.carry a).toNat = 128 * carryNat s + a.toNat / 2 := by
    rw [shiftedIn_toNat, carryNat_eq]
    rfl
  have hasr : ((a &&& (0x80 : Byte)) ||| (a >>> 1)).toNat = (if 128 ≤ a.toNat then 128 else 0) + a.toNat / 2 := by
    rw [signKept_eq_shiftedIn, shiftedIn_toNat, bitOf_seven]
    split_ifs with h <;> simp [h]
  have hswap : Completes (.swap d) s _ := completes_of_aluWrite rfl
  rw [swap_eq_ofNat] at hswap
  exact ⟨shiftCase_of_aluWrite hlsr rfl, shiftCase_of_aluWrite hror rfl, shiftCase_of_aluWrite hasr rfl, hswap,
    form_fR1 0b0110 ⟨rfl, rfl, rfl⟩, form_fR1 0b0111 ⟨rfl, rfl, rfl⟩, form_fR1 0b0101 ⟨rfl, rfl, rfl⟩,
    form_fR1 0b0010 ⟨rfl, rfl, rfl⟩⟩

/-- Settles O9: each sets one bit of SREG or of Rd to the value its rule names. -/
theorem bitResult : Obligations.BitResult := by
  unfold Obligations.BitResult
  intro s d b
  have hbits (v : Byte) (i : Fin 8) (x : Bool) (k : Nat) (_ : k < 8) := bitOf_setBit v i.val k x i.isLt
  refine ⟨⟨_, hbits s.dev.sreg b true, ?bset⟩, ⟨_, hbits s.dev.sreg b false, completes_of_sregWrite rfl⟩,
    ⟨_, hbits s.dev.sreg 6 _, completes_of_sregWrite rfl⟩, ⟨_, hbits (s.dev.reg d) b _, completes_of_aluWrite rfl⟩⟩
  have hinhibit : flag (b = 7) = (b.val == 7) := by
    rw [Bool.beq_eq_decide_eq, decide_eq_decide]
    exact Fin.ext_iff
  rw [hinhibit, ← advance_one]
  exact completes_of_retire_ok rfl

/-- Settles O10: one masked store, by the class of the register that claims A + 0x20, if one does. -/
theorem ioBitWrite : Obligations.IoBitWrite := by
  unfold Obligations.IoBitWrite
  intro s a b one reg writes
  have hreach : a.toNat + 0x20 < 0x40 := by omega
  exact ⟨fun p hr => sbi_cbi_complete hr (ioStore_ddr_set _ p _) (ioStore_ddr_clear _ p _),
    fun p hr => sbi_cbi_complete hr (ioStore_port_set _ p _) (ioStore_port_clear _ p _),
    fun p hr => sbi_cbi_complete hr (ioStore_pin_set _ p _) (ioStore_pin_clear _ p _),
    fun hr => sbi_cbi_complete hr (ioStore_gpior0_set _ _) (ioStore_gpior0_clear _ _),
    fun hr => sbi_cbi_complete hr (ioStore_tifr0_set _ _) (ioStore_tifr0_clear _ _), sbi_cbi_halt,
    ioReg_cases_of_lt hreach⟩

end Sys2Proof.Machine
end

section
/-! SUPPORT. The fields of SMCR as numbers (R42), and how the instructions of 44_mcu_control.md end. -/

namespace Sys2Proof.Machine

open Device

/-! ### SMCR -/

theorem Device.sleepEnable_eq_flag (d : Device) : d.sleepEnable = flag (d.ctl.smcr.toNat % 2 = 1) :=
  bitOf_zero_eq_flag d.ctl.smcr

theorem Device.sleepMode_eq_ofNat (d : Device) : d.sleepMode = BitVec.ofNat 3 (d.ctl.smcr.toNat / 2) := by
  apply BitVec.eq_of_toNat_eq
  rw [sleepMode, BitVec.extractLsb'_toNat, BitVec.toNat_ofNat, Nat.shiftRight_eq_div_pow, Nat.pow_one]

/-- SM = 000, in the byte's terms. -/
theorem Device.sleepMode_eq_zero_iff (d : Device) : d.sleepMode = 0 ↔ d.ctl.smcr.toNat / 2 % 8 = 0 := by
  rw [sleepMode_eq_ofNat, ← BitVec.toNat_inj, BitVec.toNat_ofNat, BitVec.ofNat_eq_ofNat, BitVec.toNat_ofNat]

/-! ### NOP, WDR, BREAK and SLEEP (R390 to R393) -/

section
variable {s : State}

theorem completes_of_idleOne {i : Instr} (h : exec i s = s.idleOne) : Completes i s (s.dev.past s.cfg 1 1) := by
  rw [← advance_one]
  exact completes_of_retire_ok h

theorem exec_sleep (s : State) : exec .sleep s = execSleep s := rfl

theorem sleep_completes_of_disabled (he : s.dev.sleepEnable = false) :
    Completes .sleep s (s.dev.past s.cfg 1 1) := by
  apply completes_of_idleOne
  rw [exec_sleep, execSleep, if_pos he, State.idleOne]

theorem sleep_completes_of_idle (he : s.dev.sleepEnable = true) (hm : s.dev.sleepMode = 0) :
    Completes .sleep s { s.dev.past s.cfg 1 1 with mode := .sleeping } := by
  rw [← advance_one]
  apply completes_of_retire_ok
  rw [exec_sleep, execSleep, if_neg (by simp [he]), if_pos hm]
  rfl

theorem sleep_halts_of_unmodelled (he : s.dev.sleepEnable = true) (hm : s.dev.sleepMode ≠ 0) :
    Halts .sleep s (.unmodelled (.sleepMode s.dev.sleepMode)) := by
  apply halts_of_retire_error
  rw [exec_sleep, execSleep, if_neg (by simp [he]), if_neg hm]

end

end Sys2Proof.Machine
end

section
/-! The statement of 44_mcu_control.md. -/

namespace Sys2Proof.Machine

open Device

/-- Settles O25: SLEEP's three outcomes by SE and SM, bits 0 and 1 to 3 of SMCR. -/
theorem mcuControl : Obligations.McuControl := by
  unfold Obligations.McuControl
  intro s smcr
  have hdecode (w : Word) : decodeWords 0x0000 w = some .nop ∧ decodeWords 0x9598 w = some .brk :=
    ⟨decodeWords_eq_some_iff.mpr ⟨rfl, rfl⟩, decodeWords_eq_some_iff.mpr ⟨rfl, rfl⟩⟩
  have henable : s.dev.sleepEnable = flag (smcr % 2 = 1) := sleepEnable_eq_flag s.dev
  have hmode : s.dev.sleepMode = 0 ↔ smcr / 2 % 8 = 0 := sleepMode_eq_zero_iff s.dev
  refine ⟨completes_of_idleOne rfl, completes_of_idleOne rfl, completes_of_idleOne rfl, hdecode,
    fun hse => sleep_completes_of_disabled ?disabled, fun hidle => sleep_completes_of_idle ?enabled ?idle,
    fun hse hsm => ?halts⟩
  case disabled => exact henable.trans (decide_eq_false (by omega))
  case enabled => exact henable.trans (decide_eq_true (by omega))
  case idle => exact hmode.mpr (by omega)
  case halts =>
    rw [← sleepMode_eq_ofNat]
    exact sleep_halts_of_unmodelled (henable.trans (decide_eq_true hse)) (hmode.not.mpr hsm)

end Sys2Proof.Machine
end

section
/-! SUPPORT. Which step a Device starts at its boundary (R412, R417, R424), and that a step leaves a halted Device as it
is (R400). -/

namespace Sys2Proof.Machine

/-! ### The eligible vector (R412) -/

theorem Vec.mem_all (v : Vec) : v ∈ Vec.all := by
  cases v <;> decide

theorem Vec.all_pairwise_number_lt : Vec.all.Pairwise fun v w => v.number < w.number := by
  decide

namespace Device

section
variable {c : Config} {k : Nat} {d e : Device} {v : Vec}

/-- The search for a vector meets the lower numbers first. -/
theorem eligible_eq_some_iff : d.eligible = some v ↔ (d.vecPending v && d.vecEnabled v) = true ∧
    ∀ w, w.number < v.number → (d.vecPending w && d.vecEnabled w) = false := by
  have hsorted := Vec.all_pairwise_number_lt
  rw [eligible, List.find?_eq_some_iff_append]
  refine and_congr_right fun _ => ⟨?_, fun hlower => ?_⟩
  · rintro ⟨before, after, hsplit, hbefore⟩ w hw
    rw [hsplit, List.pairwise_append, List.pairwise_cons] at hsorted
    obtain ⟨-, ⟨hafter, -⟩, -⟩ := hsorted
    have hmem := Vec.mem_all w
    rw [hsplit, List.mem_append, List.mem_cons] at hmem
    rcases hmem with hmem | rfl | hmem
    · exact (Bool.not_eq_true' _).mp (hbefore w hmem)
    · exact absurd hw (Nat.lt_irrefl _)
    · exact absurd hw (hafter w hmem).not_gt
  · obtain ⟨before, after, hsplit⟩ := List.append_of_mem (Vec.mem_all v)
    rw [hsplit, List.pairwise_append] at hsorted
    obtain ⟨-, -, hbefore⟩ := hsorted
    refine ⟨before, after, hsplit, fun w hw => ?_⟩
    rw [hlower w (hbefore w hw v List.mem_cons_self)]
    rfl

/-- As soon as any vector is pending and enabled, one is eligible. -/
theorem exists_eligible {w : Vec} (hw : (d.vecPending w && d.vecEnabled w) = true) : ∃ v, d.eligible = some v :=
  Option.isSome_iff_exists.mp (List.find?_isSome.mpr ⟨w, Vec.mem_all w, hw⟩)

/-! ### The vector taken (R417, R424) -/

theorem interrupt_eq_none (h : d.inhibit = true ∨ d.iFlag = false ∨ d.eligible = none) : d.interrupt = none := by
  rw [interrupt]
  rcases h with h | h | h <;> simp [h]

theorem wakeup_eq_none (h : d.iFlag = false ∨ d.eligible = none) : d.wakeup = none := by
  rw [wakeup]
  rcases h with h | h <;> simp [h]

theorem interrupt_eq_eligible (hinhibit : d.inhibit = false) (hI : d.iFlag = true) : d.interrupt = d.eligible := by
  simp [interrupt, hinhibit, hI]

theorem wakeup_eq_eligible (hI : d.iFlag = true) : d.wakeup = d.eligible := if_pos hI

/-! ### A halted Device (R400) -/

theorem Acts.eq_of_halted (h : Acts c d e) (hd : d.isHalted = true) : e = d := by
  have hawake (hmode : d.mode = .running ∨ d.mode = .sleeping) : e = d := by
    rw [isHalted_eq_false hmode] at hd
    cases hd
  cases h with
  | frozen => rfl
  | halts hn => rw [hn] at hd; cases hd
  | vectors hmode => exact hawake (hmode.imp_left And.left)
  | idles hmode => exact hawake (.inr hmode)
  | executes hmode => exact hawake (.inl hmode)

theorem Steps.eq_of_halted (h : Steps c k d e) (hd : d.isHalted = true) : e = d := by
  obtain ⟨a, level, hpasses, rfl⟩ := h
  have ha : a = d := by
    rcases hpasses with ⟨-, rfl⟩ | ⟨-, a, hacts, rfl⟩
    · rfl
    · rw [hacts.eq_of_halted hd, settle_of_halted hd]
  rw [ha, tick_of_halted hd]

end

end Device

namespace State

open Device

section
variable {s t : State} {v : Vec}

/-! ### The choice at a boundary (R417, R424) -/

theorem act_of_halted (h : s.dev.isHalted = true) : s.act = .next s := by
  rw [act]
  cases hmode : s.dev.mode with
  | halted r => rfl
  | running => rw [isHalted_eq_false (.inl hmode)] at h; cases h
  | sleeping => rw [isHalted_eq_false (.inr hmode)] at h; cases h

theorem act_of_no_interrupt (hmode : s.dev.mode = .running) (h : s.dev.interrupt = none) : s.act = s.runInstr := by
  rw [act, hmode, h]

theorem act_of_no_wakeup (hmode : s.dev.mode = .sleeping) (h : s.dev.wakeup = none) :
    s.act = .next { s with dev := s.dev.idle } := by
  rw [act, hmode, h]

/-- A Device with a vector to take starts its vectoring sequence, with the wake-up's cost if it slept. -/
theorem act_of_eligible (hmode : s.dev.mode = .running ∧ s.dev.inhibit = false ∨ s.dev.mode = .sleeping)
    (hI : s.dev.iFlag = true) (hv : s.dev.eligible = some v) :
    s.act = s.takeInterrupt v (if s.dev.mode = .sleeping then s.cfg.wideCost 4 else 0) := by
  rcases hmode with ⟨hmode, hinhibit⟩ | hmode
  · rw [act, hmode, interrupt_eq_eligible hinhibit hI, hv]
    rfl
  · rw [act, hmode, wakeup_eq_eligible hI, hv]
    rfl

/-! ### A step -/

/-- A step is what the Device under study starts at its boundary, the `fired` latches' update, and the rest of the
cycle (R413, R530). -/
theorem step_of_act (hover : s.isOver = false) (htime : s.dev.time = s.cycle) (hact : s.act = .next t) :
    step s = .next (finishCycle { t with dev := t.dev.settle }) := by
  rw [step, runCycle, if_neg (by simp [hover]), boundary, if_pos htime, hact]
  rfl

/-- The j-th sibling through a step. -/
theorem step_getElem?_siblings {j : Nat} {d : Device} (h : step s = .next t) (hj : s.siblings[j]? = some d) :
    ∃ e, t.siblings[j]? = some e ∧ Steps s.cfg s.cycle d e := by
  obtain ⟨dev, -, -, rfl⟩ := step_cases h
  have htick : (finishCycle { s with dev := dev }).siblings[j]? =
      some ((siblingBoundary { s with dev := dev } d).tick s.cycle fun p n =>
        (driven { s with dev := dev }).level (.pin (1 + j) p n)) := by
    rw [finishCycle_siblings, getElem?_tickDevices, List.getElem?_map, hj, Option.map_some, Option.map_some]
  exact ⟨_, htick, _, _, siblingBoundary_passes { s with dev := dev } d, rfl⟩

end

end State

end Sys2Proof.Machine
end

section
/-! SUPPORT. Fetching and decoding the instruction at pc, and the faults on the way (R409 steps 1 to 3). -/

namespace Sys2Proof

/-- Whether a first word matches a row does not turn on the second word (R123). -/
theorem decodeWords_eq_none_iff {w1 : Word} (w2 w2' : Word) :
    decodeWords w1 w2 = none ↔ decodeWords w1 w2' = none := by
  simp only [decodeWords, Option.map_eq_none_iff]

/-- What four bytes decode to: the first word's instruction, with the second word if it takes one. -/
theorem decodeWords_of_decode {b0 b1 b2 b3 : Byte} {i : Instr} {rest : List Byte}
    (h : decode [b0, b1, b2, b3] = .ok (i, rest)) :
    isTwoWord (wordOfBytes b0 b1) = true ∧ decodeWords (wordOfBytes b0 b1) (wordOfBytes b2 b3) = some i ∨
    isTwoWord (wordOfBytes b0 b1) = false ∧ decodeWords (wordOfBytes b0 b1) 0 = some i := by
  cases htwo : isTwoWord (wordOfBytes b0 b1) with
  | true =>
    simp only [decode, htwo, if_true] at h
    split at h
    case h_1 j hj => cases h; exact .inl ⟨rfl, hj⟩
    case h_2 => cases h
  | false =>
    simp only [decode, htwo, Bool.false_eq_true, if_false] at h
    split at h
    case h_1 j hj => cases h; exact .inr ⟨rfl, hj⟩
    case h_2 => cases h

namespace Machine

namespace Device

section
variable {c : Config} {d : Device} {w : ProgAddr}

theorem fetch_of_lt (h : 2 * w.toNat + 1 < c.progBytes) : d.fetch c w = .ok (d.progWord w) := if_pos h

theorem fetch_of_le (h : c.progBytes ≤ 2 * w.toNat + 1) : d.fetch c w = .error (.bus .fetch (2 * w.toNat)) :=
  if_neg (Nat.not_lt.mpr h)

theorem fetchInstr_of_pc_outside (h : c.progBytes ≤ 2 * d.pc.toNat + 1) :
    d.fetchInstr c = .error (.bus .fetch (2 * d.pc.toNat)) := by
  rw [fetchInstr, fetch_of_le h]

theorem fetchInstr_of_no_row (h : 2 * d.pc.toNat + 1 < c.progBytes) (hrow : decodeWords (d.progWord d.pc) 0 = none) :
    d.fetchInstr c = .error (.decode (d.progWord d.pc)) := by
  rw [fetchInstr, fetch_of_lt h]
  simp only [hrow]

theorem fetchInstr_of_one_word {i : Instr} (h : 2 * d.pc.toNat + 1 < c.progBytes)
    (hi : decodeWords (d.progWord d.pc) 0 = some i) (hone : isTwoWord (d.progWord d.pc) = false) :
    d.fetchInstr c = .ok i := by
  rw [fetchInstr, fetch_of_lt h]
  simp only [hi, hone, Bool.false_eq_true, if_false]

theorem fetchInstr_of_second_outside {i : Instr} (h : 2 * d.pc.toNat + 1 < c.progBytes)
    (hi : decodeWords (d.progWord d.pc) 0 = some i) (htwo : isTwoWord (d.progWord d.pc) = true)
    (h2 : c.progBytes ≤ 2 * (nextPc c d.pc 1).toNat + 1) :
    d.fetchInstr c = .error (.bus .fetch (2 * (nextPc c d.pc 1).toNat)) := by
  rw [fetchInstr, fetch_of_lt h]
  simp only [hi, htwo, if_true, wrapPc_pc_add_eq_nextPc c d (words := 1) (n := 1) rfl, fetch_of_le h2]

theorem fetchInstr_of_two_words {i : Instr} (h : 2 * d.pc.toNat + 1 < c.progBytes)
    (htwo : isTwoWord (d.progWord d.pc) = true) (h2 : 2 * (nextPc c d.pc 1).toNat + 1 < c.progBytes)
    (hi : decodeWords (d.progWord d.pc) (d.progWord (nextPc c d.pc 1)) = some i) : d.fetchInstr c = .ok i := by
  rw [fetchInstr, fetch_of_lt h]
  cases hfirst : decodeWords (d.progWord d.pc) 0 with
  | none => rw [(decodeWords_eq_none_iff _ _).mp hfirst] at hi; cases hi
  | some j =>
    simp only [hfirst, htwo, if_true, wrapPc_pc_add_eq_nextPc c d (words := 1) (n := 1) rfl, fetch_of_lt h2, hi,
      Option.getD_some]

/-- The instruction at pc is what the bytes there decode to, when the words it needs exist (R85, R123). -/
theorem fetchInstr_of_decode {i : Instr} {rest : List Byte}
    (hdecode : decode [d.progByte (2 * d.pc.toNat), d.progByte (2 * d.pc.toNat + 1),
      d.progByte (2 * (nextPc c d.pc 1).toNat), d.progByte (2 * (nextPc c d.pc 1).toNat + 1)] = .ok (i, rest))
    (h : 2 * d.pc.toNat + 1 < c.progBytes)
    (h2 : i.words = 2 → 2 * (nextPc c d.pc 1).toNat + 1 < c.progBytes) : d.fetchInstr c = .ok i := by
  rcases decodeWords_of_decode hdecode with ⟨htwo, hi⟩ | ⟨hone, hi⟩
  · exact fetchInstr_of_two_words h htwo (h2 ((isTwoWord_iff_words_of_decodeWords hi).mp htwo)) hi
  · exact fetchInstr_of_one_word h hi hone

end

end Device

namespace State

variable {s : State}

theorem runInstr_of_fetch {i : Instr} (h : s.dev.fetchInstr s.cfg = .ok i) : s.runInstr = exec i s := by
  rw [runInstr, h]

theorem runInstr_halts {e : FaultDetail} (h : s.dev.fetchInstr s.cfg = .error e) : HaltsAt s s.runInstr e := by
  rw [runInstr, h]
  exact s.retire_error e

end State

end Machine

end Sys2Proof
end

section
/-! SUPPORT. The vectoring sequence (R416, R424) from the push of a return address. -/

namespace Sys2Proof.Machine

theorem Vec.address_toNat (v : Vec) : v.address.toNat = 2 * v.number := by
  cases v <;> rfl

namespace Device

section
variable {c : Config} {d : Device}

/-! ### Acknowledging a source (R416 step 4) -/

/-- An event flag is cleared; a level source's flag, and every other, is kept. -/
theorem vecFlag_acknowledge (d : Device) (v w : Vec) : (d.acknowledge v).vecFlag w =
    if w = v ∧ v ≠ .usart0Rx ∧ v ≠ .usart0Udre then false else d.vecFlag w := by
  cases v with
  | timer0CompA | timer0CompB | timer0Ovf =>
    cases w <;>
      simp [acknowledge, vecFlag, bitOf_setBit, Timer0.ocfABit, Timer0.ocfBBit, Timer0.tovBit]
  | usart0Rx | usart0Udre =>
    rw [if_neg (by simp)]
    cases w <;> rfl
  | usart0Tx => cases w <;> rfl

/-! ### The sequence -/

/-- The Device after it takes vector v with room on the stack, `m` being SRAM with the pushed pc (R416). -/
def vectored (c : Config) (d : Device) (v : Vec) (wake : Nat) (m : Memory) : Device :=
  { d with
    timer := (d.acknowledge v).timer
    usart := (d.acknowledge v).usart
    fired25 := d.fired25 || flag (v = .usart0Rx)
    fired26 := d.fired26 || flag (v = .usart0Udre)
    sram := m
    sp := BitVec.ofNat 16 (d.sp.toNat - c.pcBits.raBytes)
    sreg := setBit d.sreg 7 false
    pc := v.address
    mode := .running
    time := d.time + (c.wideCost 4 + wake) }

theorem takeVector_of_room (hroom : pushRoom c d.sp) (hwf : Memory.wf .sram d.sram = true) (v : Vec) (wake : Nat) :
    ∃ m, d.takeVector c v wake = .ok (vectored c d v wake m) ∧ Pushed c d { d with sram := m } d.pc.toNat := by
  obtain ⟨e, he⟩ := exists_pushRA_ok hroom d.pc
  have hpushed : Pushed c d e d.pc.toNat := pushed_of_pushRA he hwf
  have hframe := (pushBytes_frame he).1
  rw [length_raBytesOf, sp_sub_raBytes hroom] at hframe
  refine ⟨e.sram, ?_, hpushed⟩
  rw [takeVector, he, Except.map, hframe]
  cases v <;> simp [vectored, acknowledge, setTimer, setUsart]

theorem takeVector_of_no_room (hroom : ¬ pushRoom c d.sp) (v : Vec) (wake : Nat) :
    d.takeVector c v wake = .error (.stack .push (pushFaultAt d.sp)) := by
  rw [takeVector, pushRA_eq_error hroom]
  rfl

/-- SP falls as in a call (R99). -/
theorem vectored_sp_toNat (hroom : pushRoom c d.sp) (v : Vec) (wake : Nat) (m : Memory) :
    (vectored c d v wake m).sp.toNat + c.pcBits.raBytes = d.sp.toNat :=
  called_sp_toNat hroom v.address.toNat 0 m

theorem vecFlag_vectored (v w : Vec) (wake : Nat) (m : Memory) : (vectored c d v wake m).vecFlag w =
    if w = v ∧ v ≠ .usart0Rx ∧ v ≠ .usart0Udre then false else d.vecFlag w := vecFlag_acknowledge d v w

end

end Device

end Sys2Proof.Machine
end

section
/-! The statements of 60_exceptions.md. -/

namespace Sys2Proof.Machine

open Device

/-- Settles O30: every meaning retires an effect of the Device under study. -/
theorem execAnswersNext : Obligations.ExecAnswersNext := by
  unfold Obligations.ExecAnswersNext
  intro i s
  obtain ⟨x, hx⟩ := exec_retires i s
  rw [hx]
  exact s.retire_eq x

/-- Settles O31: an effect that completes leaves the Device running or asleep, so a halted one is that of a fault. -/
theorem faultKeepsState : Obligations.FaultKeepsState := by
  unfold Obligations.FaultKeepsState
  intro i s t r hmode h hr
  obtain ⟨x, hx, hyields⟩ := exec_executes i s
  rw [hx] at h
  cases x with
  | ok e =>
    cases h
    rcases (hyields e rfl).mode hmode with he | ⟨he, -⟩ <;> cases he.symm.trans hr
  | error f =>
    cases h
    cases hr
    exact ⟨rfl, rfl, rfl, rfl⟩

/-- Settles O32: one push of pc, the source's acknowledgement, and the jump; or the push's fault. -/
theorem takeVector : Obligations.TakeVector := by
  unfold Obligations.TakeVector
  intro s v hmode hI hv hwf cost
  rw [State.act_of_eligible hmode hI hv, State.takeInterrupt]
  refine ⟨fun hroom => ?_, fun hroom => ?_⟩
  · obtain ⟨m, hm, hpushed⟩ := takeVector_of_room hroom hwf v _
    have hcost : s.cfg.wideCost 4 = cost := wideCost_eq s.cfg 4
    rw [hm, State.retire_ok]
    refine ⟨_, rfl, rfl, v.address_toNat, fun k _ => bitOf_setBit _ 7 k false (by decide),
      vectored_sp_toNat hroom v _ m, hpushed, fun w => vecFlag_vectored v w _ m, rfl, rfl, rfl, ?time, rfl, rfl, rfl,
      rfl, rfl⟩
    case time =>
      simp only [vectored, hcost]
      split <;> omega
  · rw [takeVector_of_no_room hroom]
    exact s.retire_error _

/-- Settles O33: the vectors are searched in the order of their numbers. -/
theorem vectorPriority : Obligations.VectorPriority := by
  unfold Obligations.VectorPriority
  refine fun d => ⟨fun v hv => ?_, fun w hw => ?_⟩
  · obtain ⟨hdue, hlower⟩ := eligible_eq_some_iff.mp hv
    obtain ⟨hpending, henabled⟩ := Bool.and_eq_true_iff.mp hdue
    exact ⟨hpending, henabled, hlower⟩
  · obtain ⟨v, hv⟩ := exists_eligible hw
    refine ⟨v, hv, Nat.le_of_not_lt fun hlt => ?_⟩
    rw [(eligible_eq_some_iff.mp hv).2 w hlt] at hw
    cases hw

/-- Settles O34: the choice by the mode and the vector due; BSET 7 and RETI set I and `inhibit` together. -/
theorem boundaryChoice : Obligations.BoundaryChoice := by
  unfold Obligations.BoundaryChoice
  intro s
  have hsetI (v : Byte) : bitOf (setBit v 7 true) 7 = true := bitOf_setBit v 7 7 true (by decide)
  refine ⟨fun hmode h => State.act_of_no_interrupt hmode (interrupt_eq_none h),
    fun hmode h => State.act_of_no_wakeup hmode (wakeup_eq_none h), State.act_of_halted, fun t h => ?_,
    fun t h hmode => ?_⟩
  · cases h
    exact ⟨rfl, hsetI _⟩
  · rw [exec_reti] at h
    cases hreturn : s.dev.returnTo s.cfg with
    | error e =>
      rw [hreturn] at h
      cases h
      cases hmode
    | ok d =>
      rw [hreturn] at h
      cases h
      exact ⟨rfl, hsetI _⟩

/-- Settles O35: with no vector to take the Device runs what it fetches, which is what the bytes at pc decode to. -/
theorem stepRunsInstruction : Obligations.StepRunsInstruction := by
  unfold Obligations.StepRunsInstruction
  intro s t i rest hover hmode htime hnone w w2 hdecode hw hw2 hexec
  apply State.step_of_act hover htime
  rw [State.act_of_no_interrupt hmode (interrupt_eq_none hnone),
    State.runInstr_of_fetch (fetchInstr_of_decode hdecode hw hw2), hexec]

/-- Settles O36: one lemma of the fetch for each fault. -/
theorem fetchFaults : Obligations.FetchFaults := by
  unfold Obligations.FetchFaults
  intro s halts w w2 w1
  refine ⟨fun hout => State.runInstr_halts (fetchInstr_of_pc_outside hout),
    fun hin hnone => State.runInstr_halts (fetchInstr_of_no_row hin (hnone 0)), fun hin hfirst hout => ?_⟩
  obtain ⟨i, hi, hwords⟩ := hfirst
  exact State.runInstr_halts
    (fetchInstr_of_second_outside hin hi ((isTwoWord_iff_words_of_decodeWords hi).mpr hwords) hout)

/-- Settles O37: a halted Device has no boundary and no tick, the Device under study and every sibling alike. -/
theorem haltedFrozen : Obligations.HaltedFrozen := by
  unfold Obligations.HaltedFrozen
  intro s t h
  obtain ⟨-, -, hdev, -, -⟩ := State.step_steps h
  refine ⟨hdev.eq_of_halted, fun j d hj hd => ?_⟩
  obtain ⟨e, he, hsteps⟩ := State.step_getElem?_siblings h hj
  rw [he, hsteps.eq_of_halted hd]

end Sys2Proof.Machine
end

section
/-! SUPPORT. When a step answers a next state (R542), what it records in the wires' histories and in the trace (R520,
R551), and that the histories and the trace stay in order. -/

namespace Sys2Proof.Machine

namespace State

/-! ### The end of the run -/

section
variable {s : State} {stop : Nat}

theorem isOver_eq_of_stopCycle (h : s.stopCycle = some stop) : s.isOver = flag (stop ≤ s.cycle) := by
  rw [isOver, h]

theorem step_of_isOver (h : s.isOver = true) : step s = .fault .runOver := if_pos h

/-- Before the stop cycle a step answers a next state: no boundary stops the run (log 1). -/
theorem exists_step_of_not_isOver (h : s.isOver = false) : ∃ t, step s = .next t := by
  obtain ⟨d, hd, -⟩ := s.boundary_sameBuild
  refine ⟨finishCycle { s with dev := d }, ?_⟩
  rw [step, runCycle, h, hd]
  rfl

end

end State

/-- Settles O39: the run is over from the stop cycle on, and only then. -/
theorem stopCycle : Obligations.StopCycle := by
  unfold Obligations.StopCycle
  intro s stop h
  have hover := State.isOver_eq_of_stopCycle h
  exact ⟨fun hle => State.step_of_isOver (hover.trans (decide_eq_true hle)),
    fun hlt => State.exists_step_of_not_isOver (hover.trans (decide_eq_false (Nat.not_le.mpr hlt)))⟩

/-! ### The events of a cycle -/

/-- The events of signals i, i + 1, ...: one for each whose level is not the last recorded one (R551). -/
theorem mem_traceEvents_iff {k i : Nat} {level : Endpoint → Level} {gs : List Signal} {e : TraceEvent} :
    e ∈ traceEvents k level i gs ↔
      ∃ j g, gs[j]? = some g ∧ g.last ≠ some (level g.endpoint) ∧ e = ⟨k, i + j, level g.endpoint⟩ := by
  induction gs generalizing i with
  | nil => simp [traceEvents]
  | cons g gs ih =>
    have hrest : (∃ j f, (g :: gs)[j + 1]? = some f ∧ f.last ≠ some (level f.endpoint) ∧
        e = ⟨k, i + (j + 1), level f.endpoint⟩) ↔ e ∈ traceEvents k level (i + 1) gs := by
      simp only [ih, List.getElem?_cons_succ, Nat.add_assoc, Nat.add_comm 1]
    rw [← Nat.or_exists_add_one, hrest, traceEvents]
    split
    · next hlast => simp [hlast]
    · next hlast => simp [hlast]

theorem signal_of_mem_traceEvents {k i : Nat} {level : Endpoint → Level} {gs : List Signal} {e : TraceEvent}
    (h : e ∈ traceEvents k level i gs) : e.cycle = k ∧ i ≤ e.signal ∧ e.signal < i + gs.length := by
  obtain ⟨j, g, hj, -, rfl⟩ := mem_traceEvents_iff.mp h
  obtain ⟨hlt, -⟩ := List.getElem?_eq_some_iff.mp hj
  exact ⟨rfl, Nat.le_add_right i j, Nat.add_lt_add_left hlt i⟩

theorem traceEvents_pairwise (k i : Nat) (level : Endpoint → Level) (gs : List Signal) :
    (traceEvents k level i gs).Pairwise fun e f => e.signal < f.signal := by
  induction gs generalizing i with
  | nil => exact .nil
  | cons g gs ih =>
    rw [traceEvents]
    split
    · exact ih _
    · exact .cons (fun e he => (signal_of_mem_traceEvents he).2.1) (ih _)

/-- Signal j has an event of this cycle with value x exactly if x is its level and not the last recorded one. -/
theorem exists_event_iff {k : Nat} {level : Endpoint → Level} {gs : List Signal} {j : Nat} {g : Signal}
    (hj : gs[j]? = some g) (x : Level) :
    (∃ e ∈ traceEvents k level 0 gs, e.signal = j ∧ e.value = x) ↔
      x = level g.endpoint ∧ g.last ≠ some x := by
  constructor
  · rintro ⟨e, he, hsignal, rfl⟩
    obtain ⟨i, f, hi, hlast, rfl⟩ := mem_traceEvents_iff.mp he
    obtain rfl : i = j := (Nat.zero_add i).symm.trans hsignal
    obtain rfl : g = f := Option.some.inj (hj.symm.trans hi)
    exact ⟨rfl, hlast⟩
  · rintro ⟨rfl, hlast⟩
    exact ⟨_, mem_traceEvents_iff.mpr ⟨j, g, hj, hlast, rfl⟩, Nat.zero_add j, rfl⟩

theorem getElem?_noteLevels (level : Endpoint → Level) (gs : List Signal) (j : Nat) :
    (noteLevels level gs)[j]? = gs[j]?.map fun g => { g with last := some (level g.endpoint) } := List.getElem?_map

theorem State.finishCycle_trace (s : State) :
    s.finishCycle.trace = s.trace ++ traceEvents s.cycle s.driven.level 0 s.signals := rfl

/-- Settles O60: the trace gains the events of `traceEvents`, with the levels after every Device's boundary. -/
theorem traceRecords : Obligations.TraceRecords := by
  unfold Obligations.TraceRecords
  intro s b t hb hstep level
  obtain ⟨d, hboundary, -, rfl⟩ := State.step_cases hstep
  obtain rfl : b = { s with dev := d } := Host.Outcome.next.inj (hb.symm.trans hboundary)
  refine ⟨traceEvents s.cycle level 0 s.signals, State.finishCycle_trace _, traceEvents_pairwise _ _ _ _,
    fun e he => ?_, fun j g hj => ⟨?_, exists_event_iff hj⟩⟩
  · obtain ⟨hcycle, -, hlt⟩ := signal_of_mem_traceEvents he
    exact ⟨hcycle, by omega⟩
  · rw [State.finishCycle_signals, getElem?_noteLevels]
    exact congrArg (Option.map _) hj

/-! ### The invariant of the records -/

/-- One more sample, until `delay` + 1 are held (R520). -/
theorem Wire.length_push {delay k n : Nat} {hist : List Sample} (h : hist.length = min n (delay + 1)) (drive : Drive) :
    (Wire.push delay k hist drive).length = min (n + 1) (delay + 1) := by
  rw [Wire.push, List.length_take, List.length_cons, h]
  omega

theorem State.RecordInv.finishCycle {s : State} (h : s.RecordInv) : s.finishCycle.RecordInv where
  histories := by
    intro w hw
    rw [finishCycle_wires] at hw
    obtain ⟨x, hx, rfl⟩ := List.mem_map.mp hw
    obtain ⟨hA, hB⟩ := h.histories x hx
    exact ⟨Wire.length_push hA _, Wire.length_push hB _⟩
  ordered := by
    rw [finishCycle_trace, List.pairwise_append]
    refine ⟨h.ordered, (traceEvents_pairwise _ _ _ _).imp_of_mem fun he hf hlt => .inr ⟨?_, hlt⟩,
      fun e he f hf => .inl ?_⟩
    · rw [(signal_of_mem_traceEvents he).1, (signal_of_mem_traceEvents hf).1]
    · rw [(signal_of_mem_traceEvents hf).1]
      exact (h.past e he).1
  past := by
    intro e he
    rw [finishCycle_cycle, finishCycle_signals, noteLevels, List.length_map]
    rw [finishCycle_trace] at he
    rcases List.mem_append.mp he with he | he
    · exact ⟨Nat.lt_succ_of_lt (h.past e he).1, (h.past e he).2⟩
    · obtain ⟨hcycle, -, hlt⟩ := signal_of_mem_traceEvents he
      exact ⟨hcycle ▸ Nat.lt_succ_self _, by omega⟩

/-- Settles O49: a boundary changes no record, and the rest of a cycle adds one sample to each history and the events
of that cycle to the trace. -/
theorem stepKeepsRecords : Obligations.StepKeepsRecords := by
  unfold Obligations.StepKeepsRecords
  intro s t h hstep
  obtain ⟨d, hboundary, -, rfl⟩ := State.step_cases hstep
  have hd : State.RecordInv { s with dev := d } := ⟨h.histories, h.ordered, h.past⟩
  exact ⟨hd.finishCycle, _, hboundary, State.finishCycle_wires _⟩

end Sys2Proof.Machine
end

section
/-! SUPPORT. That what a Device does depends on the run's parameters, the cycle and the Device alone, as long as no
wire brings a level to it (R533, R534): every instruction, a boundary, the tick of an unwired Device. -/

namespace Sys2Proof.Machine

namespace State

/-- The run `r` with the parameters, the cycle and the Device under study of `s`. -/
def around (s r : State) : State := { r with cfg := s.cfg, cycle := s.cycle, dev := s.dev }

@[simp] theorem around_cfg (s r : State) : (s.around r).cfg = s.cfg := rfl
@[simp] theorem around_cycle (s r : State) : (s.around r).cycle = s.cycle := rfl
@[simp] theorem around_dev (s r : State) : (s.around r).dev = s.dev := rfl

theorem around_eq {s r : State} (hcfg : s.cfg = r.cfg) (hcycle : s.cycle = r.cycle) (hdev : s.dev = r.dev) :
    s.around r = r := by
  rw [around, hcfg, hcycle, hdev]

/-- `f` makes of the Device under study of `s` what it makes of it in the run `r`, and changes nothing else. -/
def ActsAlike (f : State → Host.Outcome State Fault Refusal) (s r : State) : Prop :=
  ∃ e, f s = .next { s with dev := e } ∧ f (s.around r) = .next { s.around r with dev := e }

/-- Every instruction reads the parameters and the Device under study alone. -/
theorem exec_actsAlike (i : Instr) (s r : State) : ActsAlike (exec i) s r := by
  cases i <;> exact ⟨_, rfl, rfl⟩

theorem takeInterrupt_actsAlike (v : Vec) (wake : Nat) (s r : State) :
    ActsAlike (fun s => s.takeInterrupt v wake) s r := ⟨_, rfl, rfl⟩

theorem runInstr_actsAlike (s r : State) : ActsAlike runInstr s r := by
  cases hfetch : s.dev.fetchInstr s.cfg with
  | error f =>
    refine ⟨s.dev.halt f, ?_, ?_⟩
    · rw [runInstr, hfetch]; rfl
    · rw [runInstr, around_dev, around_cfg, hfetch]; rfl
  | ok i =>
    obtain ⟨e, he, he'⟩ := exec_actsAlike i s r
    exact ⟨e, (runInstr_of_fetch hfetch).trans he, (runInstr_of_fetch (s := s.around r) hfetch).trans he'⟩

theorem act_actsAlike (s r : State) : ActsAlike act s r := by
  unfold ActsAlike act
  simp only [around_dev, around_cfg]
  cases s.dev.mode with
  | halted record => exact ⟨s.dev, rfl, rfl⟩
  | sleeping =>
    cases s.dev.wakeup with
    | none => exact ⟨_, rfl, rfl⟩
    | some v => exact takeInterrupt_actsAlike v _ s r
  | running =>
    cases s.dev.interrupt with
    | none => exact runInstr_actsAlike s r
    | some v => exact takeInterrupt_actsAlike v 0 s r

theorem boundary_of_act {s t : State} (htime : s.dev.time = s.cycle) (hact : s.act = .next t) :
    s.boundary = .next { t with dev := t.dev.settle } := by
  rw [boundary, if_pos htime, hact, settled]

theorem boundary_actsAlike (s r : State) : ActsAlike boundary s r := by
  by_cases htime : s.dev.time = s.cycle
  · obtain ⟨e, he, he'⟩ := act_actsAlike s r
    exact ⟨e.settle, boundary_of_act htime he, boundary_of_act (s := s.around r) htime he'⟩
  · exact ⟨s.dev, boundary_of_time_ne htime, boundary_of_time_ne (s := s.around r) htime⟩

/-- Without wires a pin of the Device under study has the level of its own drive (R513). -/
theorem driven_level_of_unwired {s : State} (h : s.wires = []) (p : PortName) (n : Fin 8) :
    s.driven.level (.pin 0 p n) = (s.dev.pinDrive p n).level := by
  refine level_unwired fun w hw => ?_
  have hnone : s.driven.wires = [] := congrArg (List.map _) h
  rw [hnone] at hw
  cases hw

theorem finishCycle_dev_of_unwired {s : State} (h : s.wires = []) :
    s.finishCycle.dev = s.dev.tick s.cycle fun p n => (s.dev.pinDrive p n).level := by
  simp only [finishCycle_dev, driven_level_of_unwired h]

end State

/-- Settles O50: the boundary makes the same of the Device under study in both runs, and without wires its tick sees
nothing but its own drives. -/
theorem unwiredIsolation : Obligations.UnwiredIsolation := by
  unfold Obligations.UnwiredIsolation
  intro s r t u hs hr hcfg hcycle hdev hstep hstep'
  obtain ⟨e, he, he'⟩ := State.boundary_actsAlike s r
  rw [State.around_eq hcfg hcycle hdev] at he'
  obtain ⟨d, hd, -, rfl⟩ := State.step_cases hstep
  obtain ⟨d', hd', -, rfl⟩ := State.step_cases hstep'
  obtain rfl : d = e := congrArg State.dev (Host.Outcome.next.inj (hd.symm.trans he))
  obtain rfl : d' = d := congrArg State.dev (Host.Outcome.next.inj (hd'.symm.trans he'))
  have htick := State.finishCycle_dev_of_unwired (s := { s with dev := d' }) hs
  rw [htick, State.finishCycle_dev_of_unwired (s := { r with dev := d' }) hr]
  exact congrArg (fun k => Device.tick d' k fun p n => (d'.pinDrive p n).level) hcycle

end Sys2Proof.Machine
end

section
/-! SUPPORT. A tick of Timer0 in Normal mode, CTC mode and fast PWM (R461 to R464, R470), and its ticks over several
cycles (R460). -/

namespace Sys2Proof.Machine

namespace Timer0

/-! ### The matches of a tick -/

/-- An output match sets the channel's latch and nothing else; with COM0x = 10 it clears it (R470). -/
theorem outputMatch_eq_setLatch (t : Timer0) (x : Channel) :
    ∃ v, t.outputMatch x = t.setLatch v x ∧ (t.com x = 2 → v = false) := by
  have hkeep : t.setLatch (t.latch x) x = t := by cases x <;> rfl
  unfold outputMatch
  split
  case h_1 hcom => exact ⟨t.latch x, hkeep.symm, fun h => by simp [h] at hcom⟩
  case h_2 hcom => exact ⟨_, rfl, fun h => by simp [h] at hcom⟩
  case h_3 hcom =>
    split
    · exact ⟨_, rfl, fun h => by simp [h] at hcom⟩
    · exact ⟨t.latch x, hkeep.symm, fun h => by simp [h] at hcom⟩
  case h_4 => exact ⟨_, rfl, fun _ => rfl⟩
  case h_5 hne _ _ => exact ⟨_, rfl, fun h => (hne (by rw [h]; rfl)).elim⟩

/-- Timer0 in a tick after the matches of both channels, before the count (R461). -/
def matched (t : Timer0) : Timer0 :=
  let t1 := { t with block := false }
  let t2 := if t.isMatch t.ocr0a then t1.compareMatch ocfABit .a else t1
  if t.isMatch t.ocr0b then t2.compareMatch ocfBBit .b else t2

/-- TIFR0 after those matches. -/
def matchedFlags (t : Timer0) : Byte :=
  let f := if t.isMatch t.ocr0a then setBit t.tifr0 ocfABit true else t.tifr0
  if t.isMatch t.ocr0b then setBit f ocfBBit true else f

theorem tick_eq {t : Timer0} (h : (t.waveMode.isNonPwm || t.waveMode.isFastPwm) = true) :
    t.tick = t.matched.count t.tcnt0 t.top (t.isMatch t.ocr0a) := if_pos h

/-- A match of a channel, if there is one: its flag and its latch, which with COM0x = 10 is cleared. -/
theorem ite_compareMatch_eq (t : Timer0) (c : Bool) (bit : Nat) (x : Channel) :
    ∃ v, (if c then t.compareMatch bit x else t) =
        setLatch { t with tifr0 := if c then setBit t.tifr0 bit true else t.tifr0 } v x ∧
      (t.com x = 2 → v = (t.latch x && !c)) := by
  cases c with
  | false => exact ⟨t.latch x, by cases x <;> rfl, fun _ => (Bool.and_true _).symm⟩
  | true =>
    obtain ⟨v, hv, hcom⟩ := (t.setFlag bit).outputMatch_eq_setLatch x
    exact ⟨v, hv, fun h => (hcom h).trans (Bool.and_false _).symm⟩

/-- The matches reach the block, the flags and the latches; with COM0A = 10 one of channel A clears its latch. -/
theorem matched_eq (t : Timer0) :
    ∃ p q, t.matched = { t with block := false, tifr0 := t.matchedFlags, oc0a := p, oc0b := q } ∧
      (t.com .a = 2 → p = (t.oc0a && !t.isMatch t.ocr0a)) := by
  obtain ⟨p, hA, hp⟩ := ite_compareMatch_eq { t with block := false } (t.isMatch t.ocr0a) ocfABit .a
  obtain ⟨q, hB, -⟩ := (if t.isMatch t.ocr0a then compareMatch { t with block := false } ocfABit .a
    else { t with block := false }).ite_compareMatch_eq (t.isMatch t.ocr0b) ocfBBit .b
  refine ⟨p, q, hB.trans ?_, hp⟩
  rw [hA]
  rfl

/-- A match of channel A sets OCF0A; no match touches TOV0. -/
theorem bitOf_matchedFlags (t : Timer0) :
    bitOf t.matchedFlags 0 = bitOf t.tifr0 0 ∧ bitOf t.matchedFlags 1 = (bitOf t.tifr0 1 || t.isMatch t.ocr0a) := by
  unfold matchedFlags
  cases t.isMatch t.ocr0a <;> cases t.isMatch t.ocr0b <;> simp [bitOf_setBit, ocfABit, ocfBBit]

theorem isMatch_of_not_block {t : Timer0} (h : t.block = false) (ocr : Byte) : t.isMatch ocr = (t.tcnt0 == ocr) := by
  rw [isMatch, h]
  exact Bool.and_true _

/-! ### The outputs at BOTTOM -/

/-- The output at BOTTOM sets the channel's latch at most; with COM0x = 10 to 1 (R470). -/
theorem outputBottom_eq_setLatch (t : Timer0) (x : Channel) :
    ∃ v, t.outputBottom x = t.setLatch v x ∧ (t.com x = 2 → v = true) := by
  have hkeep : t.setLatch (t.latch x) x = t := by cases x <;> rfl
  unfold outputBottom
  split
  case h_1 => exact ⟨_, rfl, fun _ => rfl⟩
  case h_2 hcom => exact ⟨_, rfl, fun h => by simp [h] at hcom⟩
  case h_3 hne _ => exact ⟨t.latch x, hkeep.symm, fun h => (hne (by rw [h]; rfl)).elim⟩

/-- BOTTOM loads the compare values and sets the latches (R461). -/
theorem bottom_eq (t : Timer0) :
    ∃ p q, t.bottom = { t with ocr0a := t.ocr0aBuf, ocr0b := t.ocr0bBuf, oc0a := p, oc0b := q } ∧
      (t.com .a = 2 → p = true) := by
  obtain ⟨p, hp, hcom⟩ := t.outputBottom_eq_setLatch .a
  obtain ⟨q, hq, -⟩ := (t.setLatch p .a).outputBottom_eq_setLatch .b
  refine ⟨p, q, ?_, hcom⟩
  rw [bottom, hp, hq]
  rfl

/-! ### A tick, mode by mode -/

/-- The flags after an overflow, if there is one. -/
theorem bitOf_ite_setTov (f : Byte) (c : Prop) [Decidable c] :
    bitOf (if c then setBit f tovBit true else f) 0 = (bitOf f 0 || flag c) ∧
    bitOf (if c then setBit f tovBit true else f) 1 = bitOf f 1 := by
  split_ifs with h <;> simp [h, bitOf_setBit, tovBit]

section
variable {t : Timer0}

/-- A tick in a non-PWM mode: after a match of channel A the CTC mode counts from 0 again (R462, R463). -/
theorem tick_of_nonPwm (h : t.waveMode.isNonPwm = true) :
    ∃ p q, t.tick = { t with
      block := false
      oc0a := p
      oc0b := q
      tcnt0 := if t.waveMode = .ctc ∧ t.isMatch t.ocr0a = true then 0 else t.tcnt0 + 1
      tifr0 := if t.tcnt0 = 0xFF then setBit t.matchedFlags tovBit true else t.matchedFlags } := by
  obtain ⟨p, q, hm, -⟩ := t.matched_eq
  refine ⟨p, q, ?_⟩
  have hmode : t.matched.waveMode = t.waveMode := by rw [hm]; rfl
  rw [tick_eq (by rw [h]; rfl), count, hmode, hm]
  cases hw : t.waveMode with
  | normal =>
    simp only [beq_iff_eq, reduceCtorEq, false_and, if_false]
    split_ifs <;> rfl
  | ctc =>
    simp only [beq_iff_eq, true_and]
    split_ifs <;> rfl
  | phasePwmFF | fastPwmFF | reserved4 | phasePwmOcra | reserved6 | fastPwmOcra =>
    rw [hw] at h
    cases h

/-- A tick in fast PWM with TOP 0xFF below TOP, non-inverting (R464, R470). -/
theorem tick_of_fastPwm (h : t.waveMode = .fastPwmFF) (hcom : t.com .a = 2) (htop : t.tcnt0 ≠ 0xFF) :
    ∃ q, t.tick = { t with
      block := false
      oc0a := t.oc0a && !t.isMatch t.ocr0a
      oc0b := q
      tcnt0 := t.tcnt0 + 1
      tifr0 := t.matchedFlags } := by
  obtain ⟨p, q, hm, hp⟩ := t.matched_eq
  refine ⟨q, ?_⟩
  have hmode : t.matched.waveMode = .fastPwmFF := by rw [hm]; exact h
  have hbelow : (t.tcnt0 == t.top || t.tcnt0 == 0xFF) = false := by
    rw [top, h]
    exact (Bool.or_self _).trans (beq_eq_false_iff_ne.mpr htop)
  rw [tick_eq (by rw [h]; rfl), count, hmode, hm, hp hcom]
  simp only [hbelow]
  rfl

/-- The tick in fast PWM that leaves TOP = 0xFF, non-inverting (R464, R470). -/
theorem tick_of_fastPwm_top (h : t.waveMode = .fastPwmFF) (hcom : t.com .a = 2) (htop : t.tcnt0 = 0xFF) :
    ∃ q, t.tick = { t with
      block := false
      ocr0a := t.ocr0aBuf
      ocr0b := t.ocr0bBuf
      oc0a := true
      oc0b := q
      tcnt0 := 0
      tifr0 := setBit t.matchedFlags tovBit true } := by
  obtain ⟨p, q, hm, -⟩ := t.matched_eq
  obtain ⟨a, b, hb, ha⟩ := (t.matched.setFlag tovBit).bottom_eq
  refine ⟨b, ?_⟩
  have hmode : t.matched.waveMode = .fastPwmFF := by rw [hm]; exact h
  have hcomm : (t.matched.setFlag tovBit).com .a = 2 := by rw [hm]; exact hcom
  have hat : (t.tcnt0 == t.top) = true := by
    rw [top, h, htop]
    rfl
  rw [tick_eq (by rw [h]; rfl), count, hmode]
  simp only [hat, Bool.true_or, if_true]
  rw [hb, ha hcomm, hm]
  rfl

end

/-! ### Ticks over several cycles -/

theorem advance_of_divisor_one {t : Timer0} (h : t.divisor = some 1) (c : Nat) : t.advance c = t.tick := by
  rw [advance, ticksIn, h]
  exact if_pos (beq_iff_eq.mpr (Nat.mod_one _))

theorem toNat_add_one (v : Byte) : (v + 1).toNat = (v.toNat + 1) % 256 := BitVec.toNat_add v 1

theorem toNat_add_one_of_lt {v : Byte} (h : v.toNat + 1 < 256) : (v + 1).toNat = v.toNat + 1 :=
  (toNat_add_one v).trans (Nat.mod_eq_of_lt h)

theorem flag_or_flag {p q r : Prop} [Decidable p] [Decidable q] [Decidable r] (h : r ↔ p ∨ q) :
    (flag p || flag q) = flag r := by
  rw [← Bool.decide_or, decide_eq_decide, h]

/-- A count modulo top + 1 after one more tick. -/
theorem succ_mod_succ (m top : Nat) :
    (m + 1) % (top + 1) = if m % (top + 1) = top then 0 else m % (top + 1) + 1 := by
  have hle : m % (top + 1) ≤ top := Nat.le_of_lt_succ (Nat.mod_lt m top.succ_pos)
  rw [← Nat.mod_add_mod]
  split
  · next h => rw [h, Nat.mod_self]
  · exact Nat.mod_eq_of_lt (by omega)

theorem eq_full_iff (v : Byte) : v = 0xFF ↔ v.toNat = 255 := BitVec.toNat_inj.symm

/-- Timer0 `u`, in Normal mode as `t`, `n` ticks after `t` (R462). -/
structure NormalAfter (t u : Timer0) (n : Nat) : Prop where
  mode : u.waveMode = .normal
  divisor : u.divisor = t.divisor
  count : u.tcnt0.toNat = (t.tcnt0.toNat + n) % 256
  tov : bitOf u.tifr0 0 = (bitOf t.tifr0 0 || flag (256 ≤ t.tcnt0.toNat + n))

theorem NormalAfter.tick {t u : Timer0} {n : Nat} (h : NormalAfter t u n) : NormalAfter t u.tick (n + 1) := by
  obtain ⟨p, q, htick⟩ := tick_of_nonPwm (t := u) (by rw [h.mode]; rfl)
  have htov : 256 ≤ t.tcnt0.toNat + (n + 1) ↔ 256 ≤ t.tcnt0.toNat + n ∨ u.tcnt0 = 0xFF := by
    rw [eq_full_iff, h.count]
    omega
  rw [htick]
  refine ⟨h.mode, h.divisor, ?_, ?_⟩
  · rw [if_neg (by simp [h.mode]), toNat_add_one, h.count]
    omega
  · rw [(bitOf_ite_setTov _ _).1, u.bitOf_matchedFlags.1, h.tov, Bool.or_assoc, flag_or_flag htov]

/-- Over the cycles from k on a timer in Normal mode ticks once in each that ends at a multiple of N (R460). -/
theorem normalAfter_advanceN {t : Timer0} {n : Nat} (hmode : t.waveMode = .normal) (hdivisor : t.divisor = some n)
    (k m : Nat) : NormalAfter t (t.advanceN k m) ((k + m) / n - k / n) := by
  induction m with
  | zero =>
    have hlt := t.tcnt0.isLt
    have hnot : flag (256 ≤ t.tcnt0.toNat + 0) = false := decide_eq_false (by omega)
    rw [Nat.add_zero, Nat.sub_self]
    exact ⟨hmode, rfl, (Nat.mod_eq_of_lt hlt).symm, by rw [hnot, Bool.or_false]; rfl⟩
  | succ m ih =>
    have hle : k / n ≤ (k + m) / n := Nat.div_le_div_right (Nat.le_add_right k m)
    rw [advanceN, advance, ticksIn, ih.divisor, hdivisor, ← Nat.add_assoc k m 1, Nat.succ_div]
    by_cases hdvd : n ∣ k + m + 1
    · rw [if_pos (beq_iff_eq.mpr (Nat.mod_eq_zero_of_dvd hdvd)), if_pos hdvd,
        show (k + m) / n + 1 - k / n = (k + m) / n - k / n + 1 by omega]
      exact ih.tick
    · rw [if_neg (fun h => hdvd (Nat.dvd_of_mod_eq_zero (beq_iff_eq.mp h))), if_neg hdvd]
      exact ih

/-- Timer0 `u` in CTC mode, `m` ticks after `t`, whose count was 0 and not blocked (R463). -/
structure CtcAfter (t u : Timer0) (m : Nat) : Prop where
  mode : u.waveMode = .ctc
  divisor : u.divisor = some 1
  unblocked : u.block = false
  top : u.ocr0a = t.ocr0a
  count : u.tcnt0.toNat = m % (t.ocr0a.toNat + 1)
  ocf : bitOf u.tifr0 1 = (bitOf t.tifr0 1 || flag (t.ocr0a.toNat + 1 ≤ m))
  tov : bitOf u.tifr0 0 = (bitOf t.tifr0 0 || flag (t.ocr0a.toNat = 255 ∧ 256 ≤ m))

theorem CtcAfter.tick {t u : Timer0} {m : Nat} (h : CtcAfter t u m) : CtcAfter t u.tick (m + 1) := by
  obtain ⟨p, q, htick⟩ := tick_of_nonPwm (t := u) (by rw [h.mode]; rfl)
  have hmatch : u.isMatch u.ocr0a = flag (m % (t.ocr0a.toNat + 1) = t.ocr0a.toNat) := by
    rw [isMatch_of_not_block h.unblocked, beq_eq_flag, h.top, h.count]
  have htop : t.ocr0a.toNat ≤ 255 := Nat.le_of_lt_succ t.ocr0a.isLt
  have hle : m % (t.ocr0a.toNat + 1) ≤ t.ocr0a.toNat := Nat.le_of_lt_succ (Nat.mod_lt m (Nat.succ_pos _))
  have hend : t.ocr0a.toNat + 1 ≤ m + 1 ↔ t.ocr0a.toNat + 1 ≤ m ∨ m % (t.ocr0a.toNat + 1) = t.ocr0a.toNat := by
    have hmod := Nat.mod_le m (t.ocr0a.toNat + 1)
    constructor
    · intro hm
      by_cases heq : m = t.ocr0a.toNat
      · exact .inr (by rw [heq, Nat.mod_eq_of_lt (Nat.lt_succ_self _)])
      · omega
    · omega
  have htov : t.ocr0a.toNat = 255 ∧ 256 ≤ m + 1 ↔ (t.ocr0a.toNat = 255 ∧ 256 ≤ m) ∨ u.tcnt0 = 0xFF := by
    rw [eq_full_iff, h.count]
    by_cases heq : t.ocr0a.toNat = 255
    · rw [heq] at hend ⊢
      omega
    · omega
  rw [htick]
  refine ⟨h.mode, h.divisor, rfl, h.top, ?_, ?_, ?_⟩
  · simp only [h.mode, true_and, hmatch, decide_eq_true_eq]
    rw [succ_mod_succ]
    split
    · rfl
    · next hne =>
      rw [toNat_add_one_of_lt (by rw [h.count]; omega), h.count]
  · rw [(bitOf_ite_setTov _ _).2, u.bitOf_matchedFlags.2, h.ocf, hmatch, Bool.or_assoc, flag_or_flag hend]
  · rw [(bitOf_ite_setTov _ _).1, u.bitOf_matchedFlags.1, h.tov, Bool.or_assoc, flag_or_flag htov]

theorem ctcAfter_advanceN {t : Timer0} (hmode : t.waveMode = .ctc) (hdivisor : t.divisor = some 1)
    (hcount : t.tcnt0 = 0) (hblock : t.block = false) (k m : Nat) : CtcAfter t (t.advanceN k m) m := by
  induction m with
  | zero =>
    exact ⟨hmode, hdivisor, hblock, rfl, by rw [advanceN, hcount]; rfl, (Bool.or_false _).symm,
      by simp [advanceN]⟩
  | succ m ih =>
    rw [advanceN, advance_of_divisor_one ih.divisor]
    exact ih.tick

/-- Timer0 `u` in fast PWM with TOP 0xFF, non-inverting, `m` ticks after `t`, which was at BOTTOM, its output high and
not blocked; no later than TOP (R464). -/
structure FastPwmAfter (t u : Timer0) (m : Nat) : Prop where
  mode : u.waveMode = .fastPwmFF
  divisor : u.divisor = some 1
  com : u.com .a = 2
  unblocked : u.block = false
  compare : u.ocr0a = t.ocr0a
  count : u.tcnt0.toNat = m
  output : u.oc0a = flag (m ≤ t.ocr0a.toNat)
  tov : bitOf u.tifr0 0 = bitOf t.tifr0 0

theorem FastPwmAfter.tick {t u : Timer0} {m : Nat} (h : FastPwmAfter t u m) (hm : m < 255) :
    FastPwmAfter t u.tick (m + 1) := by
  have hbelow : u.tcnt0 ≠ 0xFF := by
    rw [Ne, eq_full_iff, h.count]
    omega
  have hmatch : u.isMatch u.ocr0a = flag (m = t.ocr0a.toNat) := by
    rw [isMatch_of_not_block h.unblocked, beq_eq_flag, h.compare, h.count]
  obtain ⟨q, htick⟩ := tick_of_fastPwm h.mode h.com hbelow
  rw [htick]
  refine ⟨h.mode, h.divisor, h.com, rfl, h.compare, ?_, ?_, u.bitOf_matchedFlags.1.trans h.tov⟩
  · rw [toNat_add_one_of_lt (by rw [h.count]; omega), h.count]
  · rw [h.output, hmatch, ← decide_not, ← Bool.decide_and, decide_eq_decide]
    omega

theorem fastPwmAfter_advanceN {t : Timer0} (hmode : t.waveMode = .fastPwmFF) (hdivisor : t.divisor = some 1)
    (hcom : t.com .a = 2) (hcount : t.tcnt0 = 0) (hblock : t.block = false) (hout : t.oc0a = true) (k : Nat) {m : Nat}
    (hm : m ≤ 255) : FastPwmAfter t (t.advanceN k m) m := by
  induction m with
  | zero =>
    exact ⟨hmode, hdivisor, hcom, hblock, rfl, by rw [advanceN, hcount]; rfl, by simp [advanceN, hout], rfl⟩
  | succ m ih =>
    have hu := ih (by omega)
    rw [advanceN, advance_of_divisor_one hu.divisor]
    exact hu.tick (by omega)

end Timer0

/-! ### The obligations -/

/-- Settles O51: by induction on the cycles, a tick in each that ends at a multiple of N. -/
theorem timerPrescaled : Obligations.TimerPrescaled := by
  unfold Obligations.TimerPrescaled
  intro t k m n hmode hdivisor ticks
  have h := Timer0.normalAfter_advanceN hmode hdivisor k m
  exact ⟨h.count, h.tov⟩

/-- Settles O52: by induction on the ticks. -/
theorem ctcPeriod : Obligations.CtcPeriod := by
  unfold Obligations.CtcPeriod
  intro t k m hmode hdivisor hcount hblock top
  have h := Timer0.ctcAfter_advanceN hmode hdivisor hcount hblock k m
  exact ⟨h.count, h.ocf, h.tov⟩

/-- Settles O53: by induction on the ticks up to TOP, then the tick that leaves TOP. -/
theorem fastPwmPeriod : Obligations.FastPwmPeriod := by
  unfold Obligations.FastPwmPeriod
  intro t k m hmode hdivisor hcom hcount hblock hout hm
  have hafter {m : Nat} (hm : m ≤ 255) := Timer0.fastPwmAfter_advanceN hmode hdivisor hcom hcount hblock hout k hm
  rcases Nat.lt_or_eq_of_le hm with hlt | rfl
  · have h := hafter (Nat.le_of_lt_succ hlt)
    have hne : m ≠ 256 := by omega
    refine ⟨h.count.trans (Nat.mod_eq_of_lt hlt).symm, ?_, ?_⟩
    · simp only [h.output, hne, or_false]
    · simp only [h.tov, hne, decide_false, Bool.or_false]
  · have h := hafter (Nat.le_refl 255)
    have htop := (Timer0.eq_full_iff _).mpr h.count
    obtain ⟨q, htick⟩ := Timer0.tick_of_fastPwm_top h.mode h.com htop
    rw [Timer0.advanceN, Timer0.advance_of_divisor_one h.divisor, htick]
    refine ⟨rfl, (decide_eq_true (.inr rfl)).symm, ?_⟩
    rw [bitOf_setBit _ _ _ _ (by decide)]
    exact (Bool.or_true _).symm

end Sys2Proof.Machine
end

section
/-! SUPPORT. Ten bit periods of a frame: what USART0's transmitter and a virtual terminal put on their lines (R486,
R487, R546). -/

namespace Sys2Proof.Machine

/-! ### The transmitter -/

namespace Usart0

/-- USART0 `n` cycles after it started a frame that carries v. -/
def sending (u : Usart0) (v : Byte) (n : Nat) : Usart0 :=
  { u with tx := .busy (n / u.bitPeriod) (u.bitPeriod - n % u.bitPeriod) v }

theorem bitPeriod_pos (u : Usart0) : 0 < u.bitPeriod := Nat.lt_of_lt_of_le (by decide) u.eight_le_bitPeriod

theorem sending_zero (u : Usart0) (v : Byte) : u.sending v 0 = { u with tx := .busy 0 u.bitPeriod v } := by
  rw [sending, Nat.zero_div, Nat.zero_mod, Nat.sub_zero]

/-- A write to UDR0 of an enabled, idle transmitter starts the frame (R486). -/
theorem writeUdr0_eq_sending {u : Usart0} (hen : u.txen = true) (hidle : u.tx = .idle) (v : Byte) :
    u.writeUdr0 v = u.sending v 0 := by
  rw [writeUdr0_of_ready hen hidle, sending_zero, bitPeriod_eq]

theorem txBit_sending (u : Usart0) (v : Byte) (n : Nat) : (u.sending v n).txBit = frameLine u.bitPeriod v n := rfl

theorem udre_sending (u : Usart0) (v : Byte) (n : Nat) : (u.sending v n).udre = false := rfl

/-- A tick within a bit. -/
theorem txTick_sending_of_lt {u : Usart0} {n : Nat} (h : n % u.bitPeriod + 1 < u.bitPeriod) (v : Byte) :
    (u.sending v n).txTick = u.sending v (n + 1) := by
  have hn := Nat.div_add_mod n u.bitPeriod
  obtain ⟨hdiv, hmod⟩ := (Nat.div_mod_unique u.bitPeriod_pos).mpr
    (show n % u.bitPeriod + 1 + u.bitPeriod * (n / u.bitPeriod) = n + 1 ∧ _ from ⟨by omega, h⟩)
  rw [txTick, sending, sending, hdiv, hmod]
  dsimp only
  rw [if_neg (by omega), Nat.sub_sub]

/-- A tick that ends a bit, and with the last bit the frame (R487). -/
theorem txTick_sending_of_eq {u : Usart0} {n : Nat} (h : n % u.bitPeriod + 1 = u.bitPeriod) (v : Byte) :
    (u.sending v n).txTick =
      if n / u.bitPeriod < 9 then u.sending v (n + 1) else { u with tx := .idle, txc := true } := by
  have hn := Nat.div_add_mod n u.bitPeriod
  obtain ⟨hdiv, hmod⟩ := (Nat.div_mod_unique u.bitPeriod_pos).mpr
    (show 0 + u.bitPeriod * (n / u.bitPeriod + 1) = n + 1 ∧ _ from ⟨by rw [Nat.mul_succ]; omega, u.bitPeriod_pos⟩)
  rw [txTick, sending, sending, hdiv, hmod]
  dsimp only
  rw [if_pos (by omega)]
  rfl

/-- A tick that does not end the frame. -/
theorem txTick_sending {u : Usart0} {n : Nat} (h : n + 1 < 10 * u.bitPeriod) (v : Byte) :
    (u.sending v n).txTick = u.sending v (n + 1) := by
  have hlt := Nat.mod_lt n u.bitPeriod_pos
  rcases Nat.lt_or_eq_of_le (Nat.succ_le_of_lt hlt) with hmod | hmod
  · exact txTick_sending_of_lt hmod v
  · have hn := Nat.div_add_mod n u.bitPeriod
    rw [txTick_sending_of_eq hmod, if_pos]
    refine Nat.lt_of_succ_lt_succ (Nat.lt_of_mul_lt_mul_left (a := u.bitPeriod) ?_)
    rw [Nat.mul_succ]
    omega

theorem txTicks_sending {u : Usart0} {n : Nat} (h : n < 10 * u.bitPeriod) (v : Byte) :
    (u.sending v 0).txTicks n = u.sending v n := by
  induction n with
  | zero => rfl
  | succ n ih => rw [txTicks, ih (Nat.lt_of_succ_lt h), txTick_sending h]

theorem txTicks_sending_frame (u : Usart0) (v : Byte) :
    (u.sending v 0).txTicks (10 * u.bitPeriod) = { u with tx := .idle, txc := true } := by
  have hpos := u.bitPeriod_pos
  obtain ⟨hdiv, hmod⟩ := (Nat.div_mod_unique hpos).mpr
    (show (u.bitPeriod - 1) + u.bitPeriod * 9 = 10 * u.bitPeriod - 1 ∧ _ from
      ⟨by omega, Nat.sub_lt hpos Nat.one_pos⟩)
  have hlast : 10 * u.bitPeriod = 10 * u.bitPeriod - 1 + 1 := by omega
  rw [hlast, txTicks, txTicks_sending (by omega), txTick_sending_of_eq (by omega), hdiv]
  rfl

end Usart0

/-! ### The virtual terminal -/

namespace Terminal

/-- The cycle in which frame i of a send list starts when its first may start in cycle `free` (R546). -/
def startFrom (bitCycles free : Nat) : List (Nat × Byte) → Nat → Nat
  | [], _ => free
  | (c, _) :: _, 0 => max c free
  | (c, _) :: rest, i + 1 => startFrom bitCycles (max c free + 10 * bitCycles) rest i

section
variable {bitCycles free : Nat} {sends : List (Nat × Byte)}

theorem le_startFrom (i : Nat) : free ≤ startFrom bitCycles free sends i := by
  induction sends generalizing free i with
  | nil => rw [startFrom]
  | cons x rest ih =>
    cases i with
    | zero => exact Nat.le_max_right _ _
    | succ i => exact Nat.le_trans (by omega) (ih i)

/-- Each frame starts at its request or right after the frame before, whichever is later. -/
theorem startFrom_succ {i : Nat} (h : i + 1 < sends.length) :
    startFrom bitCycles free sends (i + 1) =
      max (sends.getD (i + 1) (0, 0)).1 (startFrom bitCycles free sends i + 10 * bitCycles) := by
  induction sends generalizing free i with
  | nil => cases h
  | cons x rest ih =>
    cases i with
    | zero =>
      cases rest with
      | nil => simp at h
      | cons y rest => rfl
    | succ i => exact ih (Nat.lt_of_succ_lt_succ h)

theorem startFrom_zero_eq_frameStart {i : Nat} (h : i < sends.length) :
    startFrom bitCycles 0 sends i = frameStart bitCycles sends i := by
  induction i with
  | zero =>
    cases sends with
    | nil => cases h
    | cons x rest => exact Nat.max_zero _
  | succ i ih => rw [startFrom_succ h, ih (Nat.lt_of_succ_lt h), frameStart]

/-- In cycle n of frame i the line carries that frame's bit (R546). -/
theorem txBitFrom_in_frame {i c n : Nat} {b : Byte} (hi : sends[i]? = some (c, b)) (hn : n < 10 * bitCycles) :
    txBitFrom bitCycles free (startFrom bitCycles free sends i + n) sends = frameLine bitCycles b n := by
  induction sends generalizing free i with
  | nil => cases hi
  | cons x rest ih =>
    cases i with
    | zero =>
      cases hi
      have hstart : max c free + n - max c free = n := Nat.add_sub_cancel_left _ _
      rw [txBitFrom, startFrom, if_neg (by omega), if_pos (by omega), hstart]
      rfl
    | succ i =>
      have hle := le_startFrom (bitCycles := bitCycles) (free := max x.1 free + 10 * bitCycles) (sends := rest) i
      rw [txBitFrom, startFrom, if_neg (by omega), if_neg (by omega)]
      exact ih hi

/-- Outside every frame the line is 1 (R546). -/
theorem txBitFrom_outside {k : Nat}
    (h : ∀ i < sends.length, k < startFrom bitCycles free sends i ∨
      startFrom bitCycles free sends i + 10 * bitCycles ≤ k) :
    txBitFrom bitCycles free k sends = true := by
  induction sends generalizing free with
  | nil => rfl
  | cons x rest ih =>
    rw [txBitFrom]
    rcases h 0 (Nat.succ_pos _) with hbefore | hafter
    · exact if_pos hbefore
    · rw [startFrom] at hafter
      rw [if_neg (by omega), if_neg (by omega)]
      exact ih fun i hi => h (i + 1) (Nat.succ_lt_succ hi)

end

end Terminal

/-- Settles O54: the transmitter's state n cycles after the write is `Usart0.sending`, and a terminal's line is that
of the frame its cycle lies in. -/
theorem transmitFrame : Obligations.TransmitFrame := by
  unfold Obligations.TransmitFrame
  refine ⟨fun u v hen hidle => ?_, fun t => ?_⟩
  · rw [Usart0.writeUdr0_eq_sending hen hidle, Usart0.txTicks_sending_frame]
    refine ⟨fun n hn => ?_, fun n hn => ?_, rfl, rfl⟩
    · rw [Usart0.txTicks_sending hn, Usart0.txBit_sending]
    · rw [Usart0.txTicks_sending hn, Usart0.udre_sending]
  · refine ⟨fun i c b hi n hn => ?_, fun k hk => ?_⟩
    · obtain ⟨hlt, -⟩ := List.getElem?_eq_some_iff.mp hi
      rw [Terminal.txDrive, ← Terminal.startFrom_zero_eq_frameStart hlt, Terminal.txBitFrom_in_frame hi hn]
    · rw [Terminal.txDrive, Terminal.txBitFrom_outside]
      intro i hi
      rw [Terminal.startFrom_zero_eq_frameStart hi]
      exact hk i hi

end Sys2Proof.Machine
end

section
/-! SUPPORT. What a receiver makes of ten bit periods of a line that falls (R488, R493, R494, R547): one account of the
receiver that USART0 and the virtual terminal share, then each of the two. -/

namespace Sys2Proof.Machine

/-! ### A receiver in a frame -/

/-- The tick, counted from the one that sees the start bit, in which a receiver of bit period d takes sample j
(R488). -/
def sampleTick (d j : Nat) : Nat := d / 2 + j * d

/-- The data bits a receiver has collected from a line after its samples 1 .. n. -/
def collected (d : Nat) (line : Nat → Bool) : Nat → Byte
  | 0 => 0
  | n + 1 => setBit (collected d line n) n (line (sampleTick d (n + 1)))

/-- A receiver in the frame that began at tick 0 of the line, before tick n: it waits for one of its ten samples. -/
def Receiving (d : Nat) (line : Nat → Bool) (n : Nat) (rx : RxState) : Prop :=
  ∃ j ≤ 9, n ≤ sampleTick d j ∧ rx = .frame j (sampleTick d j + 1 - n) (collected d line (j - 1))

/-- What the stop sample makes of a frame (R488). -/
def frameReport (d : Nat) (line : Nat → Bool) : RxReport :=
  if line (sampleTick d 9) then .byte (collected d line 8) else .badStop

theorem sampleTick_succ (d j : Nat) : sampleTick d (j + 1) = sampleTick d j + d := by
  rw [sampleTick, sampleTick, Nat.succ_mul, Nat.add_assoc]

/-- The bits collected from a line that holds bit i of v at sample i + 1. -/
theorem collected_eight {d : Nat} {line : Nat → Bool} {v : Byte}
    (h : ∀ i < 8, line (sampleTick d (i + 1)) = bitOf v i) :
    collected d line 8 = v := by
  have hbits (n : Nat) (hn : n ≤ 8) : ∀ i < n, bitOf (collected d line n) i = bitOf v i := by
    induction n with
    | zero => exact fun i hi => (Nat.not_lt_zero i hi).elim
    | succ n ih =>
      intro i hi
      rw [collected, bitOf_setBit _ _ _ _ hn]
      split
      · next heq => rw [heq, h n hn]
      · exact ih (Nat.le_of_succ_le hn) i (by omega)
  exact byte_ext (hbits 8 (Nat.le_refl 8))

section
variable {d : Nat} {line : Nat → Bool} {rx : RxState}

/-- The tick that sees the line fall. -/
theorem rxStep_fall (hd : 2 ≤ d) (line : Nat → Bool) :
    ∃ rx, rxStep d true false .idle = (rx, none) ∧ Receiving d line 1 rx := by
  have hhalf : 1 ≤ sampleTick d 0 := by rw [sampleTick]; omega
  refine ⟨.frame 0 (d / 2) 0, rfl, 0, Nat.zero_le 9, hhalf, ?_⟩
  rw [Nat.add_sub_cancel, sampleTick, Nat.zero_mul]
  rfl

/-- A tick before that of the stop sample, on a line that is still 0 at the start bit's sample. -/
theorem rxStep_receiving (hd : 0 < d) (hstart : line (d / 2) = false) {n : Nat} (h : Receiving d line n rx)
    (hn : n < sampleTick d 9) (prev : Bool) :
    ∃ rx', rxStep d prev (line n) rx = (rx', none) ∧ Receiving d line (n + 1) rx' := by
  obtain ⟨j, hj, hle, rfl⟩ := h
  rcases Nat.lt_or_eq_of_le hle with hlt | rfl
  · rw [rxStep, if_neg (by omega)]
    exact ⟨_, rfl, j, hj, hlt, by rw [Nat.sub_sub]⟩
  · have hwait : sampleTick d (j + 1) + 1 - (sampleTick d j + 1) = d := by rw [sampleTick_succ]; omega
    have hnext : sampleTick d j + 1 ≤ sampleTick d (j + 1) := by rw [sampleTick_succ]; omega
    rw [rxStep, if_pos (by omega)]
    cases j with
    | zero =>
      have hlow : line (sampleTick d 0) = false := by rw [sampleTick, Nat.zero_mul]; exact hstart
      rw [hlow]
      exact ⟨_, rfl, 1, by decide, hnext, by rw [hwait]; rfl⟩
    | succ j =>
      have hne : j + 1 ≠ 9 := fun heq => Nat.lt_irrefl _ (heq ▸ hn)
      rw [if_neg (Nat.succ_ne_zero j), if_pos (by omega)]
      exact ⟨_, rfl, j + 2, by omega, hnext, by rw [hwait]; rfl⟩

/-- The tick of the stop sample. -/
theorem rxStep_stop (hd : 0 < d) (h : Receiving d line (sampleTick d 9) rx) (prev : Bool) :
    rxStep d prev (line (sampleTick d 9)) rx = (.idle, some (frameReport d line)) := by
  obtain ⟨j, hj, hle, rfl⟩ := h
  obtain rfl : j = 9 := by
    refine Nat.le_antisymm hj (Nat.le_of_mul_le_mul_right ?_ hd)
    rwa [sampleTick, sampleTick, Nat.add_le_add_iff_left] at hle
  rw [rxStep, if_pos (by omega)]
  rfl

/-- A line on which an idle receiver of bit period d accepts a start bit at tick 0. -/
structure StartBit (d : Nat) (line : Nat → Bool) : Prop where
  fall : line 0 = false
  held : line (d / 2) = false

end

/-! A unit with a receiver on such a line, `run n` after n ticks: as long as the receiver reports nothing, the unit is
`unit rx prev` for the receiver's state and its previous sample. -/

section
variable {d : Nat} {line : Nat → Bool} {α : Type} {run : Nat → α} {unit : RxState → Bool → α} (hd : 2 ≤ d)
  (hline : StartBit d line) (hzero : run 0 = unit .idle true)
  (hstep : ∀ n rx rx' prev, run n = unit rx prev → rxStep d prev (line n) rx = (rx', none) →
    run (n + 1) = unit rx' (line n))
include hd hline hzero hstep

/-- Its receiver is in the frame until the tick of the stop sample. -/
theorem exists_receiving {n : Nat} (hn : n < sampleTick d 9) :
    ∃ rx, run (n + 1) = unit rx (line n) ∧ Receiving d line (n + 1) rx := by
  induction n with
  | zero =>
    obtain ⟨rx, hfall, hrx⟩ := rxStep_fall hd line
    exact ⟨rx, hstep 0 _ _ _ hzero (by rw [hline.fall, hfall]), hrx⟩
  | succ n ih =>
    obtain ⟨rx, hrun, hrx⟩ := ih (Nat.lt_of_succ_lt hn)
    obtain ⟨rx', hnone, hrx'⟩ := rxStep_receiving (Nat.lt_of_lt_of_le Nat.two_pos hd) hline.held hrx hn (line n)
    exact ⟨rx', hstep _ _ _ _ hrun hnone, hrx'⟩

/-- Before the tick of the stop sample the receiver's next step is to report the frame. -/
theorem exists_receiving_stop :
    ∃ rx prev, run (sampleTick d 9) = unit rx prev ∧
      rxStep d prev (line (sampleTick d 9)) rx = (.idle, some (frameReport d line)) := by
  have hpos : 0 < sampleTick d 9 := by rw [sampleTick]; omega
  have hlast : sampleTick d 9 - 1 + 1 = sampleTick d 9 := Nat.sub_add_cancel hpos
  obtain ⟨rx, hrun, hrx⟩ := exists_receiving hd hline hzero hstep (Nat.sub_lt hpos Nat.one_pos)
  rw [hlast] at hrun hrx
  exact ⟨rx, _, hrun, rxStep_stop (Nat.lt_of_lt_of_le Nat.two_pos hd) hrx _⟩

end

/-! ### USART0 (R493, R494) -/

namespace Usart0

/-- A receiver tick while RXEN0 = 1. -/
theorem rxTick_eq {u : Usart0} {s : Bool} {rx : RxState} {report : Option RxReport} (hen : u.rxen = true)
    (h : rxStep u.bitPeriod u.rxPrev s u.rx = (rx, report)) :
    u.rxTick s = { u.receive report with rx := rx, rxPrev := s } := by
  rw [rxTick, if_pos hen, h]

/-- An enabled, idle receiver on a line with a start bit: nothing but the receiver changes before the tick of the stop
sample, and in that tick it reports the frame and is idle again. -/
theorem rxTicks_frame {r : Usart0} {line : Nat → Bool} (hen : r.rxen = true) (hidle : r.rx = .idle)
    (hprev : r.rxPrev = true) (hline : StartBit r.bitPeriod line) :
    ∃ rx prev, r.rxTicks line (sampleTick r.bitPeriod 9) = { r with rx := rx, rxPrev := prev } ∧
      r.rxTicks line (sampleTick r.bitPeriod 9 + 1) =
        { receive { r with rx := rx, rxPrev := prev } (some (frameReport r.bitPeriod line)) with
          rx := .idle, rxPrev := line (sampleTick r.bitPeriod 9) } := by
  obtain ⟨rx, prev, hrun, hstop⟩ := exists_receiving_stop (run := r.rxTicks line)
    (unit := fun rx prev => { r with rx := rx, rxPrev := prev }) (Nat.le_trans (by decide) r.eight_le_bitPeriod) hline
    (by rw [← hidle, ← hprev]; rfl)
    (fun n rx rx' prev hrun hstep => by
      rw [rxTicks, hrun]
      exact rxTick_eq (u := { r with rx := rx, rxPrev := prev }) hen hstep)
  refine ⟨rx, prev, hrun, ?_⟩
  rw [rxTicks, hrun]
  exact rxTick_eq (u := { r with rx := rx, rxPrev := prev }) hen hstop

section
variable {r : Usart0} {line : Nat → Bool} {n : Nat}

/-- A frame that carries v is delivered in the tick of its stop sample, and nothing before (R493). -/
theorem rxTicks_byte {v : Byte} (hen : r.rxen = true) (hidle : r.rx = .idle) (hprev : r.rxPrev = true)
    (hline : StartBit r.bitPeriod line) (hreport : frameReport r.bitPeriod line = .byte v)
    (hn : n = sampleTick r.bitPeriod 9) :
    (r.rxc = false → (r.rxTicks line n).rxc = false ∧ (r.rxTicks line (n + 1)).rxc = true ∧
      (r.rxTicks line (n + 1)).rxBuf = v ∧ (r.rxTicks line (n + 1)).dor = r.dor) ∧
    (r.rxc = true → (r.rxTicks line n).dor = r.dor ∧ (r.rxTicks line (n + 1)).rxc = true ∧
      (r.rxTicks line (n + 1)).rxBuf = r.rxBuf ∧ (r.rxTicks line (n + 1)).dor = true) ∧
    (r.rxTicks line (n + 1)).fe = r.fe ∧ (r.rxTicks line (n + 1)).rx = .idle := by
  obtain ⟨rx, prev, hbefore, hafter⟩ := rxTicks_frame hen hidle hprev hline
  rw [hn, hbefore, hafter, hreport, receive, deliver]
  cases hrxc : r.rxc with
  | false => exact ⟨fun _ => ⟨rfl, rfl, rfl, rfl⟩, nofun, rfl, rfl⟩
  | true => exact ⟨nofun, fun _ => ⟨rfl, rfl, rfl, rfl⟩, rfl, rfl⟩

/-- A frame whose stop sample is 0 sets FE0 in that tick, and nothing before (R494). -/
theorem rxTicks_badStop (hen : r.rxen = true) (hidle : r.rx = .idle) (hprev : r.rxPrev = true)
    (hline : StartBit r.bitPeriod line) (hreport : frameReport r.bitPeriod line = .badStop)
    (hn : n = sampleTick r.bitPeriod 9) :
    (r.rxTicks line n).fe = r.fe ∧ (r.rxTicks line (n + 1)).fe = true ∧ (r.rxTicks line (n + 1)).rxc = r.rxc ∧
    (r.rxTicks line (n + 1)).rxBuf = r.rxBuf ∧ (r.rxTicks line (n + 1)).dor = r.dor ∧
    (r.rxTicks line (n + 1)).rx = .idle := by
  obtain ⟨rx, prev, hbefore, hafter⟩ := rxTicks_frame hen hidle hprev hline
  rw [hn, hbefore, hafter, hreport, receive]
  exact ⟨rfl, rfl, rfl, rfl, rfl, rfl⟩

end

end Usart0

/-! ### The virtual terminal (R547) -/

namespace Terminal

/-- A tick on a line that does not float. -/
theorem tick_eq {x : Terminal} {s : Bool} {rx : RxState} {report : Option RxReport}
    (h : rxStep x.bitCycles x.rxPrev s x.rx = (rx, report)) (k : Nat) :
    x.tick k (Level.ofBool s) =
      { x with rx := rx, rxPrev := s, output := x.output ++ (report.map (event k)).toList } := by
  have hbit (draw : Bool) : (Level.ofBool s).bit draw = s := by cases s <;> rfl
  have hz : Level.ofBool s ≠ .z := by cases s <;> decide
  rw [tick, hbit, h, if_neg hz]

/-- An idle terminal receiver on a line with a start bit, as `Usart0.rxTicks_frame`. -/
theorem rxTicks_frame {x : Terminal} {line : Nat → Bool} (hd : 2 ≤ x.bitCycles) (hidle : x.rx = .idle)
    (hprev : x.rxPrev = true) (hline : StartBit x.bitCycles line) (k : Nat) :
    (x.rxTicks k line (sampleTick x.bitCycles 9)).output = x.output ∧
    (x.rxTicks k line (sampleTick x.bitCycles 9 + 1)).output =
      x.output ++ [event (k + sampleTick x.bitCycles 9) (frameReport x.bitCycles line)] := by
  obtain ⟨rx, prev, hrun, hstop⟩ := exists_receiving_stop (run := x.rxTicks k line)
    (unit := fun rx prev => { x with rx := rx, rxPrev := prev }) hd hline (by rw [← hidle, ← hprev]; rfl)
    (fun n rx rx' prev hrun hstep => by
      rw [rxTicks, hrun, tick_eq (x := { x with rx := rx, rxPrev := prev }) hstep]
      simp)
  refine ⟨by rw [hrun], ?_⟩
  rw [rxTicks, hrun, tick_eq (x := { x with rx := rx, rxPrev := prev }) hstop]
  rfl

end Terminal

/-! ### The lines -/

/-- Sample j of a line that carries a frame from tick 0 on is bit j of the frame. -/
theorem frameLine_sampleTick {d : Nat} (hd : 0 < d) (v : Byte) (j : Nat) :
    frameLine d v (sampleTick d j) = if j = 0 then false else if j ≤ 8 then bitOf v (j - 1) else true := by
  have hdiv : sampleTick d j / d = j := by
    rw [sampleTick, Nat.add_mul_div_right _ _ hd, Nat.div_eq_of_lt (Nat.div_lt_self hd Nat.one_lt_two), Nat.zero_add]
  rw [frameLine, hdiv]

/-- A line that carries the frame of v for all ten bit periods. -/
theorem frameReport_of_frameLine {d : Nat} (hd : 0 < d) {line : Nat → Bool} {v : Byte}
    (h : ∀ n < 10 * d, line n = frameLine d v n) : StartBit d line ∧ frameReport d line = .byte v := by
  have hsample (j : Nat) (hj : j ≤ 9) :
      line (sampleTick d j) = if j = 0 then false else if j ≤ 8 then bitOf v (j - 1) else true := by
    rw [← frameLine_sampleTick hd v j]
    refine h _ ?_
    have := Nat.mul_le_mul_right d hj
    rw [sampleTick]
    omega
  have hzero : line 0 = false := by
    rw [h 0 (by omega), frameLine, Nat.zero_div]
    rfl
  refine ⟨⟨hzero, ?_⟩, ?_⟩
  · have hstart := hsample 0 (Nat.zero_le 9)
    rwa [sampleTick, Nat.zero_mul] at hstart
  · rw [frameReport, hsample 9 (Nat.le_refl 9), collected_eight (v := v) fun i hi => ?_]
    · rfl
    · rw [hsample (i + 1) (by omega), if_neg (Nat.succ_ne_zero i), if_pos (by omega), Nat.add_sub_cancel]

/-- A line that stays at 0. -/
theorem frameReport_of_low (d : Nat) :
    StartBit d (fun _ => false) ∧ frameReport d (fun _ => false) = .badStop := ⟨⟨rfl, rfl⟩, rfl⟩

/-- Settles O55: the written byte's frame is on the line for ten bit periods, in which each receiver takes its ten
samples; on a low line the stop sample is 0. -/
theorem serialLoopback : Obligations.SerialLoopback := by
  unfold Obligations.SerialLoopback
  intro u r x k v hen hidle hrxen hrx hrxPrev hperiod hxrx hxPrev hcycles line low n got failed
  have hpos := u.bitPeriod_pos
  have hline (n : Nat) (hn : n < 10 * u.bitPeriod) : line n = frameLine u.bitPeriod v n := by
    show ((u.writeUdr0 v).txTicks n).txBit = _
    rw [Usart0.writeUdr0_eq_sending hen hidle, Usart0.txTicks_sending hn, Usart0.txBit_sending]
  obtain ⟨hstart, hreport⟩ := frameReport_of_frameLine hpos hline
  obtain ⟨hlowStart, hlowReport⟩ := frameReport_of_low u.bitPeriod
  have htwo : 2 ≤ x.bitCycles := hcycles ▸ Nat.le_trans (by decide) u.eight_le_bitPeriod
  obtain ⟨hquiet, hbyte⟩ := Terminal.rxTicks_frame htwo hxrx hxPrev (line := line) (hcycles ▸ hstart) k
  obtain ⟨hquietLow, herror⟩ := Terminal.rxTicks_frame htwo hxrx hxPrev (line := low) (hcycles ▸ hlowStart) k
  rw [hcycles] at hquiet hbyte hquietLow herror
  rw [hreport] at hbyte
  rw [hlowReport] at herror
  rw [← hperiod] at hstart hreport hlowStart hlowReport
  have hn : n = sampleTick r.bitPeriod 9 := by rw [hperiod]; rfl
  obtain ⟨hclear, hfull, hfe, hidle'⟩ := Usart0.rxTicks_byte hrxen hrx hrxPrev hstart hreport hn
  obtain ⟨hfeLow, hfailed, hrxc, hrxBuf, hdor, hidleLow⟩ :=
    Usart0.rxTicks_badStop hrxen hrx hrxPrev hlowStart hlowReport hn
  exact ⟨hclear, hfull, hfe, hidle', hfeLow, hfailed, hrxc, hrxBuf, hdor, hidleLow, hquiet, hbyte,
    hquietLow, herror⟩

end Sys2Proof.Machine
end

section
/-! SUPPORT. Which configurations a write is refused for (R43, R405, R469, R481), as conditions on the registers'
values. -/

namespace Sys2Proof.Machine

/-! ### Bits of a stored byte -/

theorem bitOf_eq_flag (v : Byte) (i : Nat) : bitOf v i = flag (v.toNat / 2 ^ i % 2 = 1) := by
  rw [bitOf, BitVec.getLsbD, Nat.testBit_eq_decide_div_mod_eq]

/-- A whole write stores the bits i .. i + n - 1 of a value when all of them are implemented (R92). -/
theorem storeBits_slice {implemented : Byte} (old v : Byte) {i n : Nat}
    (h : ∀ k < n, bitOf implemented (i + k) = true) :
    (storeBits implemented old v 0xFF).toNat / 2 ^ i % 2 ^ n = v.toNat / 2 ^ i % 2 ^ n := by
  have hslice : (storeBits implemented old v 0xFF).extractLsb' i n = v.extractLsb' i n := by
    refine BitVec.eq_of_getLsbD_eq fun k hk => ?_
    have himplemented := h k hk
    have hlt : i + k < 8 := by
      by_contra hge
      rw [bitOf_of_le _ (by omega)] at himplemented
      cases himplemented
    have hbit := bitOf_storeBits implemented old v 0xFF (i + k)
    rw [bitOf_full hlt, himplemented] at hbit
    rw [BitVec.getLsbD_extractLsb', BitVec.getLsbD_extractLsb']
    exact congrArg (decide (k < n) && ·) hbit
  have hnat := congrArg BitVec.toNat hslice
  rwa [BitVec.extractLsb'_toNat, BitVec.extractLsb'_toNat, Nat.shiftRight_eq_div_pow, Nat.shiftRight_eq_div_pow] at hnat

/-! ### Timer0 -/

namespace Timer0

/-- The conditions of R469 on the values of TCCR0A and TCCR0B. -/
def Refused (a b : Byte) : Prop :=
  6 ≤ b.toNat % 8 ∨ (b.toNat % 8 ≠ 0 ∧ wgmOf a b ∈ [1, 4, 5, 6]) ∨
    (b.toNat % 8 ≠ 0 ∧ wgmOf a b ∈ [3, 7] ∧ a.toNat / 16 % 4 = 1)

theorem cs_toNat (t : Timer0) : t.cs.toNat = t.tccr0b.toNat % 8 := by
  rw [cs, BitVec.extractLsb'_toNat]
  rfl

/-- The modes of R451 that are modelled neither as non-PWM nor as fast PWM. -/
theorem waveMode_unmodelled_iff (t : Timer0) :
    t.waveMode.isNonPwm = false ∧ t.waveMode.isFastPwm = false ↔ wgmOf t.tccr0a t.tccr0b ∈ [1, 4, 5, 6] := by
  have hmode : ∀ w : BitVec 3, (WaveMode.ofWgm w).isNonPwm = false ∧ (WaveMode.ofWgm w).isFastPwm = false ↔
      w.toNat ∈ [1, 4, 5, 6] := by decide
  rw [← wgm_toNat, waveMode, hmode]

theorem isFastPwm_iff (t : Timer0) : t.waveMode.isFastPwm = true ↔ wgmOf t.tccr0a t.tccr0b ∈ [3, 7] := by
  have hmode : ∀ w : BitVec 3, (WaveMode.ofWgm w).isFastPwm = true ↔ w.toNat ∈ [3, 7] := by decide
  rw [← wgm_toNat, waveMode, hmode]

theorem exists_refusal_iff (t : Timer0) : (∃ u, t.refusal = some u) ↔ Refused t.tccr0a t.tccr0b := by
  have hcs : t.cs ≠ 0 ↔ t.tccr0b.toNat % 8 ≠ 0 := by
    rw [← cs_toNat, Ne, ← BitVec.toNat_inj]
    rfl
  have hcom : t.com .b = 1 ↔ t.tccr0a.toNat / 16 % 4 = 1 := by
    rw [← com_b_toNat, ← BitVec.toNat_inj]
    rfl
  rw [Refused, ← waveMode_unmodelled_iff, ← isFastPwm_iff, ← hcs, ← hcom, ← cs_toNat, refusal]
  split_ifs with hclock hwgm hcom0b <;> simp_all

/-- A configuration is refused exactly under those conditions (R469). -/
theorem configured_refused_iff (t : Timer0) :
    (∃ u, t.configured = .error (.unmodelled u)) ↔ Refused t.tccr0a t.tccr0b := by
  rw [← exists_refusal_iff, configured]
  cases t.refusal <;> simp

/-- The bits of TCCR0A that decide: WGM01, WGM00 and COM0B. -/
theorem refused_of_store_tccr0a (old v b : Byte) : Refused (storeBits 0xF3 old v 0xFF) b ↔ Refused v b := by
  have hwgm := storeBits_slice old v (implemented := 0xF3) (i := 0) (n := 2) (by decide)
  have hcom := storeBits_slice old v (implemented := 0xF3) (i := 4) (n := 2) (by decide)
  simp only [Nat.reducePow, Nat.div_one] at hwgm hcom
  simp only [Refused, wgmOf, hwgm, hcom]

/-- The bits of TCCR0B that decide: CS0 and WGM02. -/
theorem refused_of_store_tccr0b (old v a : Byte) : Refused a (storeBits 0x0F old v 0xFF) ↔ Refused a v := by
  have hcs := storeBits_slice old v (implemented := 0x0F) (i := 0) (n := 3) (by decide)
  have hwgm := storeBits_slice old v (implemented := 0x0F) (i := 3) (n := 1) (by decide)
  simp only [Nat.reducePow, Nat.div_one] at hcs hwgm
  simp only [Refused, wgmOf, hcs, hwgm]

end Timer0

/-! ### USART0 -/

namespace Usart0

/-- The condition of R481 on the values of UCSR0B and UCSR0C and on MPCM0: enabled, and not asynchronous 8N1. -/
def Refused (b c : Nat) (mpcm : Bool) : Prop := b / 8 % 4 ≠ 0 ∧ ¬ (c / 2 = 3 ∧ b / 4 % 2 = 0 ∧ mpcm = false)

theorem enabled_iff (u : Usart0) : (u.rxen || u.txen) = true ↔ u.ucsr0b.toNat / 8 % 4 ≠ 0 := by
  rw [rxen, txen, bitOf_eq_flag, bitOf_eq_flag, Bool.or_eq_true, decide_eq_true_eq, decide_eq_true_eq]
  omega

theorem is8N1_iff (u : Usart0) :
    u.is8N1 = true ↔ u.ucsr0c.toNat / 2 = 3 ∧ u.ucsr0b.toNat / 4 % 2 = 0 ∧ u.mpcm = false := by
  have hlt := u.ucsr0c.isLt
  simp only [is8N1, ucsz02, bitOf_eq_flag, beq_eq_flag, Bool.and_eq_true, decide_eq_true_eq, Bool.not_eq_true',
    decide_eq_false_iff_not, BitVec.extractLsb'_toNat, Nat.shiftRight_eq_div_pow, BitVec.ofNat_eq_ofNat,
    BitVec.toNat_ofNat, Nat.reducePow, Nat.reduceMod, Nat.zero_mod]
  constructor
  · rintro ⟨⟨⟨⟨⟨hmode, hparity⟩, hstop⟩, hsize⟩, hsize2⟩, hmpcm⟩
    exact ⟨by omega, by omega, hmpcm⟩
  · rintro ⟨hc, hsize2, hmpcm⟩
    exact ⟨⟨⟨⟨⟨by omega, by omega⟩, by omega⟩, by omega⟩, by omega⟩, hmpcm⟩

/-- A configuration is refused exactly under that condition. -/
theorem configured_refused_iff (u : Usart0) :
    (∃ x, u.configured = .error (.unmodelled x)) ↔ Refused u.ucsr0b.toNat u.ucsr0c.toNat u.mpcm := by
  rw [Refused, ← enabled_iff, ← is8N1_iff, configured]
  split_ifs with h <;> simp_all

/-- The bits of UCSR0B that decide: RXEN0, TXEN0 and UCSZ02. -/
theorem refused_of_store_ucsr0b (old v : Byte) (c : Nat) (mpcm : Bool) :
    Refused (storeBits 0xFD old v 0xFF).toNat c mpcm ↔ Refused v.toNat c mpcm := by
  have henabled := storeBits_slice old v (implemented := 0xFD) (i := 3) (n := 2) (by decide)
  have hsize := storeBits_slice old v (implemented := 0xFD) (i := 2) (n := 1) (by decide)
  simp only [Nat.reducePow] at henabled hsize
  simp only [Refused, henabled, hsize]

end Usart0

/-! ### The writes -/

namespace Device

theorem map_refused_iff {α : Type} (x : Except FaultDetail α) (f : α → Device) :
    (∃ u, x.map f = .error (.unmodelled u)) ↔ ∃ u, x = .error (.unmodelled u) := by
  cases x with
  | error e => simp [Except.map]
  | ok a => exact ⟨nofun, nofun⟩

/-- Device `d` refuses a whole write of v to the register. -/
def Refuses (d : Device) (v : Byte) (r : IoReg) : Prop := ∃ u, d.ioStore v 0xFF r = .error (.unmodelled u)

section
variable (d : Device) (v : Byte)

theorem refuses_mcucr_iff : d.Refuses v .mcucr ↔ v.toNat / 2 % 2 = 1 := by
  have hbit : bitOf (v &&& 0xFF) 1 = true ↔ v.toNat / 2 % 2 = 1 := by
    rw [and_full, bitOf_eq_flag, decide_eq_true_eq, Nat.pow_one]
  rw [Refuses, ioStore, writeMcucr, ← hbit]
  split_ifs with h
  · exact iff_of_true ⟨_, rfl⟩ h
  · exact iff_of_false nofun h

theorem refuses_tccr0a_iff : d.Refuses v .tccr0a ↔ Timer0.Refused v d.timer.tccr0b := by
  rw [Refuses, ioStore, map_refused_iff, Timer0.writeTccr0a, Timer0.configured_refused_iff,
    Timer0.refused_of_store_tccr0a]

theorem refuses_tccr0b_iff : d.Refuses v .tccr0b ↔ Timer0.Refused d.timer.tccr0a v := by
  rw [Refuses, ioStore, map_refused_iff, Timer0.writeTccr0b, ← Timer0.refused_of_store_tccr0b d.timer.tccr0b v,
    ← Timer0.configured_refused_iff { d.timer with tccr0b := storeBits 0x0F d.timer.tccr0b v 0xFF }]
  cases Timer0.configured { d.timer with tccr0b := storeBits 0x0F d.timer.tccr0b v 0xFF } <;> simp

theorem refuses_ucsr0a_iff : d.Refuses v .ucsr0a ↔
    Usart0.Refused d.usart.ucsr0b.toNat d.usart.ucsr0c.toNat (flag (v.toNat % 2 = 1)) := by
  rw [Refuses, ioStore, map_refused_iff, Usart0.writeUcsr0a, Usart0.configured_refused_iff,
    ← bitOf_zero_eq_flag]
  rfl

theorem refuses_ucsr0b_iff : d.Refuses v .ucsr0b ↔
    Usart0.Refused v.toNat d.usart.ucsr0c.toNat d.usart.mpcm := by
  rw [Refuses, ioStore, map_refused_iff, Usart0.writeUcsr0b, ← Usart0.refused_of_store_ucsr0b d.usart.ucsr0b v,
    ← Usart0.configured_refused_iff { d.usart with ucsr0b := storeBits 0xFD d.usart.ucsr0b v 0xFF }]
  cases Usart0.configured { d.usart with ucsr0b := storeBits 0xFD d.usart.ucsr0b v 0xFF } <;> simp

theorem refuses_ucsr0c_iff : d.Refuses v .ucsr0c ↔
    Usart0.Refused d.usart.ucsr0b.toNat v.toNat d.usart.mpcm := by
  rw [Refuses, ioStore, map_refused_iff, Usart0.writeUcsr0c, Usart0.configured_refused_iff, storeBits_all]

end

end Device

/-- Settles O56: register by register, the check of the configuration the write would leave. -/
theorem configRefused : Obligations.ConfigRefused := by
  unfold Obligations.ConfigRefused
  exact fun d v => ⟨d.refuses_mcucr_iff v, d.refuses_tccr0a_iff v, d.refuses_tccr0b_iff v, d.refuses_ucsr0a_iff v,
    d.refuses_ucsr0b_iff v, d.refuses_ucsr0c_iff v⟩

end Sys2Proof.Machine
end

section
/-! SUPPORT. What a wire makes of its two drives (R522, R523), and what its histories say of the drives of past cycles
(R520). -/

namespace Sys2Proof.Machine

namespace Wire

/-! ### The two policies -/

section
variable {a b : Sample} {p q : Bool} (pol : Policy)

theorem eq_pullUp_or_float {x : Drive} (h : ∀ p, x ≠ .strong p) : x = .pullUp ∨ x = .float := by
  cases x with
  | strong p => exact absurd rfl (h p)
  | pullUp => exact .inl rfl
  | float => exact .inr rfl

theorem resolve_strong_left (ha : a.drive = .strong p) (hb : ∀ q, b.drive ≠ .strong q) :
    resolve pol a b = Level.ofBool p := by
  rcases eq_pullUp_or_float hb with hb | hb <;> cases pol <;> rw [resolve] <;>
    simp only [resolveOr, resolveLastWriter, ha, hb]

theorem resolve_strong_right (hb : b.drive = .strong q) (ha : ∀ p, a.drive ≠ .strong p) :
    resolve pol a b = Level.ofBool q := by
  rcases eq_pullUp_or_float ha with ha | ha <;> cases pol <;> rw [resolve] <;>
    simp only [resolveOr, resolveLastWriter, ha, hb]

theorem resolve_weak (ha : ∀ p, a.drive ≠ .strong p) (hb : ∀ q, b.drive ≠ .strong q) :
    resolve pol a b = weak a.drive b.drive := by
  rcases eq_pullUp_or_float ha with ha | ha <;> rcases eq_pullUp_or_float hb with hb | hb <;> cases pol <;>
    rw [resolve] <;> simp only [resolveOr, resolveLastWriter, ha, hb]

theorem resolve_or_strong (ha : a.drive = .strong p) (hb : b.drive = .strong q) :
    resolve .or a b = Level.ofBool (p || q) := by
  rw [resolve, resolveOr, ha, hb]

theorem resolve_lastWriter_strong (ha : a.drive = .strong p) (hb : b.drive = .strong q) :
    resolve .lastWriter a b = Level.ofBool (if b.chg < a.chg then p else q) := by
  rw [resolve, resolveLastWriter, ha, hb]

end

end Wire

/-- Settles O58: two Strong drives policy by policy, one Strong drive, and two drives of which none is Strong. -/
theorem wireResolution : Obligations.WireResolution := by
  unfold Obligations.WireResolution
  intro a b p q x
  refine ⟨fun pol ha hb => ?_, Wire.resolve_or_strong, fun ha hb _ => Wire.resolve_lastWriter_strong ha hb,
    Wire.resolve_strong_left, Wire.resolve_strong_right, fun pol htrue hfalse hpull => ?_, fun pol ha hb => ?_⟩
  · cases pol with
    | or => rw [Wire.resolve_or_strong ha hb, Bool.or_self]
    | lastWriter => rw [Wire.resolve_lastWriter_strong ha hb, ite_self]
  · have hx (s : Bool) : x ≠ .strong s := by cases s <;> assumption
    rcases hpull with ⟨ha, hb⟩ | ⟨ha, hb⟩
    · rw [Wire.resolve_weak pol (by simp [ha]) (by simpa [hb] using hx), ha]
      exact if_pos (.inl rfl)
    · rw [Wire.resolve_weak pol (by simpa [ha] using hx) (by simp [hb]), hb]
      exact if_pos (.inr rfl)
  · rw [Wire.resolve_weak pol (by simp [ha]) (by simp [hb]), ha, hb]
    rfl

/-! ### Histories -/

section
variable (drive : Nat → Drive)

/-- The drive of the cycle before, Float before cycle 0 (R520). -/
def driveBefore (j : Nat) : Drive := if j = 0 then .float else drive (j - 1)

/-- The last cycle up to j in which the drive changed, 0 if it never did (R520; log 16). -/
def lastChange : Nat → Nat
  | 0 => 0
  | j + 1 => if drive (j + 1) = drive j then lastChange j else j + 1

theorem lastChange_le (n : Nat) : lastChange drive n ≤ n := by
  induction n with
  | zero => exact Nat.le_refl 0
  | succ n ih =>
    rw [lastChange]
    split <;> omega

theorem drive_eq_of_lastChange_lt {n j : Nat} (hlt : lastChange drive n < j) (hle : j ≤ n) :
    drive j = driveBefore drive j := by
  induction n with
  | zero => omega
  | succ n ih =>
    rw [lastChange] at hlt
    split at hlt
    · next heq =>
      rcases Nat.lt_or_eq_of_le hle with hj | rfl
      · exact ih hlt (Nat.le_of_lt_succ hj)
      · exact heq
    · omega

theorem drive_lastChange_ne {n : Nat} (h : drive n ≠ .float) :
    drive (lastChange drive n) ≠ driveBefore drive (lastChange drive n) := by
  induction n with
  | zero => exact h
  | succ n ih =>
    rw [lastChange]
    split
    · next heq => exact ih (heq ▸ h)
    · next hne => exact hne

/-- The sample of cycle j. -/
def sampleAt (j : Nat) : Sample := { drive := drive j, chg := lastChange drive j }

/-- The samples of the cycles n - 1, ..., 0. -/
def samplesBefore : Nat → List Sample
  | 0 => []
  | n + 1 => sampleAt drive n :: samplesBefore n

theorem getElem?_samplesBefore {n i : Nat} (h : i < n) :
    (samplesBefore drive n)[i]? = some (sampleAt drive (n - 1 - i)) := by
  induction n generalizing i with
  | zero => cases h
  | succ n ih =>
    cases i with
    | zero => rfl
    | succ i =>
      rw [samplesBefore, List.getElem?_cons_succ, ih (Nat.lt_of_succ_lt_succ h)]
      congr 2
      omega

theorem length_samplesBefore (n : Nat) : (samplesBefore drive n).length = n := by
  induction n with
  | zero => rfl
  | succ n ih => rw [samplesBefore, List.length_cons, ih]

/-- A history holds the latest `delay` + 1 samples. -/
theorem history_eq (delay n : Nat) : Wire.history delay drive n = (samplesBefore drive n).take (delay + 1) := by
  induction n with
  | zero => rfl
  | succ n ih =>
    have hsample : (⟨drive n, if drive n = ((samplesBefore drive n).headD Wire.silent).drive then
        ((samplesBefore drive n).headD Wire.silent).chg else n⟩ : Sample) = sampleAt drive n := by
      cases n with
      | zero => simp [samplesBefore, sampleAt, Wire.silent, lastChange]
      | succ n => rfl
    have hhead : ((samplesBefore drive n).take (delay + 1)).headD Wire.silent =
        (samplesBefore drive n).headD Wire.silent := by cases samplesBefore drive n <;> rfl
    rw [Wire.history, Wire.push, ih, hhead, hsample, samplesBefore, List.take_succ_cons, List.take_succ_cons,
      List.take_take, Nat.min_eq_left (Nat.le_succ delay)]

theorem near_history (delay n : Nat) : Wire.near (Wire.history delay drive (n + 1)) = sampleAt drive n := by
  rw [history_eq]
  rfl

theorem far_history_of_le {delay n : Nat} (h : delay ≤ n) : Wire.far delay (Wire.history delay drive (n + 1)) =
    { sampleAt drive (n - delay) with chg := (sampleAt drive (n - delay)).chg + delay } := by
  rw [Wire.far, history_eq, List.getD_eq_getElem?_getD, List.getElem?_take_of_lt (Nat.lt_succ_self delay),
    getElem?_samplesBefore drive (Nat.lt_succ_of_le h)]
  rfl

theorem far_history_of_lt {delay n : Nat} (h : n < delay) :
    (Wire.far delay (Wire.history delay drive (n + 1))).drive = .float := by
  rw [Wire.far, history_eq, List.getD_eq_default]
  · rfl
  · rw [List.length_take, length_samplesBefore]
    omega

end

/-- Settles O59: a history holds the latest samples, each with its drive and the last change of it. -/
theorem wireDelay : Obligations.WireDelay := by
  unfold Obligations.WireDelay
  intro delay drive n h before
  have hnear : Wire.near h = sampleAt drive n := near_history drive delay n
  rw [hnear]
  refine ⟨rfl, ?_, fun j => drive_eq_of_lastChange_lt drive,
    fun hne => ⟨drive_lastChange_ne drive hne, lastChange_le drive n⟩, fun hle hne => ?_⟩
  · split
    · next hle => rw [far_history_of_le drive hle]; rfl
    · next hlt => exact far_history_of_lt drive (Nat.lt_of_not_le hlt)
  · have hfar : Wire.far delay h = _ := far_history_of_le drive hle
    rw [hfar]
    exact ⟨lastChange drive (n - delay), rfl, drive_lastChange_ne drive hne, lastChange_le drive _,
      fun j => drive_eq_of_lastChange_lt drive⟩

end Sys2Proof.Machine
end

section
/-! SUPPORT. What every pin drives (R511), the level of an endpoint (R513, R520), and what a PIN read gives two ticks
later (R514). -/

namespace Sys2Proof.Machine

/-! ### The pin multiplexer (R470, R483, R511, R512) -/

namespace Device

section
variable (d : Device)

theorem inputDrive_eq_inputPin (p : PortName) (n : Fin 8) : d.inputDrive p n = inputPin d p n := by
  simp only [inputDrive, inputPin, pullUpsOff, Bool.and_eq_true, Bool.not_eq_true']

theorem portDrive_eq_portPin (p : PortName) (n : Fin 8) : d.portDrive p n = portPin d p n := by
  rw [portDrive, portPin, inputDrive_eq_inputPin]

end

end Device

theorem Usart0.txOwnsPin_iff (u : Usart0) : u.txOwnsPin = true ↔ bitOf u.ucsr0b 3 = true ∨ u.tx ≠ .idle := by
  rw [txOwnsPin, Bool.or_eq_true, Bool.not_eq_true', udre, decide_eq_false_iff_not]
  rfl

theorem Usart0.txBit_eq_txLine (u : Usart0) : u.txBit = txLine u.tx := by
  unfold txBit txLine
  cases u.tx <;> rfl

namespace Timer0

theorem com_ne_zero_iff (t : Timer0) (x : Channel) : (t.com x != 0) = true ↔ (t.com x).toNat ≠ 0 := by
  rw [bne_iff_ne, Ne, ← BitVec.toNat_inj]
  rfl

/-- Channel A is connected unless COM0A is 00, or 01 in the modes with TOP 0xFF of R470. -/
theorem connected_a_iff (t : Timer0) :
    t.connected .a = true ↔ t.tccr0a.toNat / 64 ≠ 0 ∧
      ¬ (t.tccr0a.toNat / 64 = 1 ∧ (wgmOf t.tccr0a t.tccr0b = 1 ∨ wgmOf t.tccr0a t.tccr0b = 3)) := by
  have hmode : ∀ w : BitVec 3, WaveMode.ofWgm w = .phasePwmFF ∨ WaveMode.ofWgm w = .fastPwmFF ↔
      w.toNat = 1 ∨ w.toNat = 3 := by decide
  have hwave : t.waveMode = .phasePwmFF ∨ t.waveMode = .fastPwmFF ↔ t.wgm.toNat = 1 ∨ t.wgm.toNat = 3 :=
    hmode t.wgm
  have hone : t.com .a = 1 ↔ (t.com .a).toNat = 1 := BitVec.toNat_inj.symm
  rw [← com_a_toNat, ← wgm_toNat, ← hwave, ← hone, ← com_ne_zero_iff]
  rw [connected, Bool.and_eq_true, Bool.not_eq_true', ← Bool.not_eq_true]
  simp only [Bool.and_eq_true, Bool.or_eq_true, decide_eq_true_eq, true_and]

/-- Channel B is connected unless COM0B is 00. -/
theorem connected_b_iff (t : Timer0) : t.connected .b = true ↔ t.tccr0a.toNat / 16 % 4 ≠ 0 := by
  rw [← com_b_toNat, ← com_ne_zero_iff]
  simp [connected]

end Timer0

/-- The pins with an alternate function: TXD0, OC0A, OC0B and RXD0 (R511). -/
def alternatePins : List (PortName × Fin 8) := [(.e, 1), (.b, 7), (.g, 5), (.e, 0)]

/-- All four of them exist (R510). -/
theorem hasPin_of_mem_alternatePins {p : PortName} {n : Fin 8} (h : (p, n) ∈ alternatePins) : p.hasPin n = true := by
  simp only [alternatePins, List.mem_cons, Prod.mk.injEq, List.not_mem_nil, or_false] at h
  rcases h with ⟨rfl, rfl⟩ | ⟨rfl, rfl⟩ | ⟨rfl, rfl⟩ | ⟨rfl, rfl⟩ <;> rfl

namespace Device

section
variable (d : Device)

/-- A pin without an alternate function, if it exists (R510, R511). -/
theorem pinDrive_of_ordinary {p : PortName} {n : Fin 8} (h : (p, n) ∉ alternatePins) :
    d.pinDrive p n = if p.hasPin n = true then portPin d p n else .float := by
  rw [← portDrive_eq_portPin]
  unfold pinDrive
  split <;> simp_all [alternatePins]

theorem pinMultiplexer : PinMultiplexer d := by
  refine ⟨?txd, ?oc0a, ?oc0b, ?rxd, fun p n h hpin => ?ordinary, fun p n hpin => ?absent⟩
  case txd =>
    show (if d.usart.txOwnsPin = true then _ else d.portDrive .e 1) = _
    simp only [d.usart.txOwnsPin_iff, portDrive_eq_portPin, Usart0.txBit_eq_txLine]
  case oc0a =>
    show (if (d.timer.connected .a && bitOf (d.portRegs .b).ddr 7) = true then _ else d.portDrive .b 7) = _
    simp only [Bool.and_eq_true, d.timer.connected_a_iff, portDrive_eq_portPin, and_assoc]
  case oc0b =>
    show (if (d.timer.connected .b && bitOf (d.portRegs .g).ddr 5) = true then _ else d.portDrive .g 5) = _
    simp only [Bool.and_eq_true, d.timer.connected_b_iff, portDrive_eq_portPin]
  case rxd =>
    show (if d.usart.rxen = true then d.inputDrive .e 0 else d.portDrive .e 0) = _
    rw [inputDrive_eq_inputPin, portDrive_eq_portPin]
    rfl
  case ordinary => rw [pinDrive_of_ordinary d h, if_pos hpin]
  case absent =>
    have hordinary : (p, n) ∉ alternatePins := fun hmem => by simp [hasPin_of_mem_alternatePins hmem] at hpin
    rw [pinDrive_of_ordinary d hordinary, if_neg (by simp [hpin])]

end

end Device

/-! ### The level of an endpoint -/

namespace State

section
variable {s : State} {e : Endpoint}

theorem joins_iff (w : Wire) (e : Endpoint) : w.joins e = true ↔ w.a = e ∨ w.b = e := by
  simp [Wire.joins]

/-- The only wire of an endpoint gives it its level (R520). -/
theorem level_of_only_wire {w : Wire} (hw : w ∈ s.wires) (hon : w.a = e ∨ w.b = e)
    (honly : ∀ x ∈ s.wires, x.a = e ∨ x.b = e → x = w) : s.level e = w.levelAt e := by
  obtain ⟨x, hx⟩ := Option.isSome_iff_exists.mp
    (List.find?_isSome (p := fun w => w.joins e).mpr ⟨w, hw, (joins_iff w e).mpr hon⟩)
  have hjoins : x.joins e = true := List.find?_some (p := fun w : Wire => w.joins e) hx
  obtain rfl : x = w := honly x (List.mem_of_find?_eq_some hx) ((joins_iff x e).mp hjoins)
  rw [level, hx]

theorem endpointLevel (s : State) (e : Endpoint) : EndpointLevel s e := by
  refine ⟨fun hnone => ?_, fun w hw honly => ⟨fun ha => ?_, fun hb hne => ?_⟩⟩
  · rw [level_unwired fun w hw => by rw [← Bool.not_eq_true, joins_iff]; exact hnone w hw]
    cases s.drive e with
    | strong b => cases b <;> rfl
    | pullUp | float => rfl
  · rw [level_of_only_wire hw (.inl ha) honly, Wire.levelAt, if_pos ha, Wire.levelA]
  · rw [level_of_only_wire hw (.inr hb) honly, Wire.levelAt, if_neg hne, Wire.levelB]

end

end State

/-! ### The synchronizers (R514) -/

namespace Device

theorem tick_isHalted (d : Device) (k : Nat) (level : PortName → Fin 8 → Level) :
    (d.tick k level).isHalted = d.isHalted := by
  unfold tick
  split <;> rfl

/-- A tick shifts each port's synchronizers (R514). -/
theorem portRegs_tick {d : Device} (h : d.isHalted = false) (k : Nat) (level : PortName → Fin 8 → Level)
    (p : PortName) : (d.tick k level).portRegs p = (d.portRegs p).sync (level p) := by
  rw [tick, if_neg (by simp [h])]
  exact portRegs_syncPins _ level p

/-- The bit of a pin in a PIN read (R514). -/
theorem bitOf_pinByte (r : Port) (draw : Byte) (n : Fin 8) :
    bitOf (r.pinByte draw) n.val = (r.sync2[n]).bit (bitOf draw n.val) := by
  unfold bitOf Port.pinByte
  fin_cases n <;> simp only [getLsbD_append_ofBool, BitVec.getLsbD_ofBool, Nat.reduceSub, Nat.reduceAdd,
    OfNat.ofNat_ne_zero, one_ne_zero, reduceIte, decide_true, Bool.true_and] <;> rfl

theorem getElem_sync2_sync (r : Port) (early late : Fin 8 → Level) (n : Fin 8) :
    ((r.sync early).sync late).sync2[n] = early n := by
  fin_cases n <;> rfl

/-- The bit of a pin in a PIN read; that of an absent pin is 0 (R53, R514). -/
theorem bitOf_pinRead (d : Device) (p : PortName) (n : Fin 8) :
    bitOf (d.pinRead p) n.val =
      (((d.portRegs p).sync2[n]).bit (bitOf (Config.deviceDraw d.name d.draws) n.val) && p.hasPin n) := by
  rw [pinRead, bitOf_and, bitOf_pinByte]
  rfl

end Device

/-- Settles O57: the pins' drives case by case, the level by the endpoint's first wire, and the two shifts of the
synchronizers. -/
theorem pinReadDelay : Obligations.PinReadDelay := by
  unfold Obligations.PinReadDelay
  refine ⟨Device.pinMultiplexer, fun s e i => ⟨s.endpointLevel e, rfl, rfl, fun d p n hd => ?_⟩,
    fun d k early late p n h => ?_⟩
  · rw [State.drive, hd]
  · have hseen := Device.bitOf_pinRead ((d.tick k early).tick (k + 1) late) p n
    rw [Device.portRegs_tick (by rw [Device.tick_isHalted, h]), Device.portRegs_tick h,
      Device.getElem_sync2_sync] at hseen
    simp only [Device.ioValue, hseen]
    refine ⟨fun hpin hone => ?_, fun hpin hzero => ?_, fun hpin => ?_⟩
    · rw [hone, hpin]; rfl
    · rw [hzero, hpin]; rfl
    · rw [hpin, Bool.and_false]

end Sys2Proof.Machine
end

section
/-! SUPPORT. A Device at reset (R601), whatever its name and program memory: what its pins drive and see, and that it
meets the invariants of a Device. -/

namespace Sys2Proof.Machine

/-- The synchronizers of a port at reset hold no level (R57). -/
theorem Port.reset_sync (n : Fin 8) : Port.reset.sync1[n] = .z ∧ Port.reset.sync2[n] = .z := by
  revert n
  decide

namespace Device

section
variable (name : String) (prog : Memory)

/-- Every port of a Device at reset is at reset (R601). -/
@[simp] theorem portRegs_reset (p : PortName) : (reset name prog).portRegs p = Port.reset := by
  cases p <;> rfl

/-! ### Pins at reset (R511, R512) -/

theorem inputPin_reset (p : PortName) (n : Fin 8) : inputPin (reset name prog) p n = .float := by
  simp [inputPin, Port.reset, bitOf]

theorem portPin_reset (p : PortName) (n : Fin 8) : portPin (reset name prog) p n = .float := by
  simp [portPin, inputPin_reset, Port.reset, bitOf]

/-- No pin drives anything at reset: no unit has taken one, and every port is an input without a pull-up. -/
theorem pinDrive_reset (p : PortName) (n : Fin 8) : (reset name prog).pinDrive p n = .float := by
  obtain ⟨htxd, hoc0a, hoc0b, hrxd, -, -⟩ := (reset name prog).pinMultiplexer
  by_cases hmem : (p, n) ∈ alternatePins
  · simp only [alternatePins, List.mem_cons, Prod.mk.injEq, List.not_mem_nil, or_false] at hmem
    rcases hmem with ⟨rfl, rfl⟩ | ⟨rfl, rfl⟩ | ⟨rfl, rfl⟩ | ⟨rfl, rfl⟩
    · rw [htxd, if_neg (by simp [reset, Usart0.reset, bitOf]), portPin_reset]
    · rw [hoc0a, if_neg (by simp [reset, Timer0.reset]), portPin_reset]
    · rw [hoc0b, if_neg (by simp [reset, Timer0.reset]), portPin_reset]
    · rw [hrxd, if_neg (by simp [reset, Usart0.reset, bitOf]), portPin_reset]
  · rw [pinDrive_of_ordinary _ hmem, portPin_reset, ite_self]

/-! ### The invariants at reset -/

/-- At reset pc is 0 and SRAM empty, and no boundary has been (R601). -/
theorem reset_coreInv (c : Config) {prog : Memory} (hprog : Memory.wf .program prog = true) :
    (reset name prog).CoreInv c 0 where
  sramCanonical := Memory.wf_nil .sram
  sramInRange := fun _ hcell => absurd hcell List.not_mem_nil
  progCanonical := hprog
  pcInRange := Nat.two_pow_pos c.pcBits.bits
  notLate := fun _ => Nat.zero_le _
  recordTrue := fun _ hmode => nomatch hmode

/-- At reset Timer0 is stopped and USART0 disabled, and no latch is set (R601). -/
theorem reset_unitInv : (reset name prog).UnitInv where
  reserved := show (reset "" []).reservedClear = true by decide
  timerModelled := show Timer0.reset.refusal = none by decide
  compareLive := fun _ => ⟨rfl, rfl⟩
  usartModelled := fun henabled => absurd henabled (show (Usart0.reset.rxen || Usart0.reset.txen) ≠ true by decide)
  txRange := rfl
  rxRange := rfl
  firedHasFlag := ⟨(fun hfired => nomatch hfired), fun hfired => nomatch hfired⟩
  inhibitHasI := fun hinhibit => nomatch hinhibit
  sleepNotInhibited := fun _ => rfl

end

end Device

/-- Settles O44: the registers are those of the reset records, the pins and the synchronizers by their lemmas, and a
byte of the empty program memory is unlisted. -/
theorem resetState : Obligations.ResetState := by
  unfold Obligations.ResetState
  have hpins (p : PortName) (n : Fin 8) : State.reset.dev.pinDrive p n = .float ∧
      (State.reset.dev.portRegs p).sync1[n] = .z ∧ (State.reset.dev.portRegs p).sync2[n] = .z := by
    refine ⟨Device.pinDrive_reset "A" [] p n, ?_⟩
    rw [State.reset, Device.portRegs_reset]
    exact Port.reset_sync n
  have hudre : Usart0.reset.ucsr0a = 0x20 := by decide
  have hubrr : Usart0.reset.ubrr0 = 0 := by decide
  exact ⟨rfl, rfl, rfl, rfl, rfl, hudre, rfl, rfl, hubrr, rfl, rfl, rfl, rfl, hpins, rfl, rfl, rfl, rfl, rfl,
    fun _ => rfl⟩

/-- Settles O46: a Device at reset meets its invariants, and a run at reset has no sibling, terminal, wire or trace
event yet. -/
theorem resetInvariants : Obligations.ResetInvariants := by
  unfold Obligations.ResetInvariants
  refine ⟨⟨?core, fun _ h => ?_⟩, ⟨?units, fun _ h => ?_, fun _ h => ?_⟩, ⟨fun _ h => ?_, ?ordered, fun _ h => ?_⟩⟩
  case core => exact Device.reset_coreInv "A" Config.default (Memory.wf_nil .program)
  case units => exact Device.reset_unitInv "A" []
  case ordered => exact List.Pairwise.nil
  all_goals exact absurd h List.not_mem_nil

end Sys2Proof.Machine
end

section
/-! SUPPORT. The run a topology builds (R549, R604): an image in program memory, the checks, and the Devices and wires
at cycle 0. -/

namespace Sys2Proof.Machine.Topology

/-! ### An image in program memory (R83) -/

theorem wfFrom_imageCells (a : Nat) (image : List Byte) : Memory.wfFrom .program a (imageCells a image) = true := by
  induction image generalizing a with
  | nil => rfl
  | cons v vs ih =>
    rw [imageCells]
    split
    · exact Memory.wfFrom_mono (ih (a + 1)) (Nat.le_succ a)
    · simp_all [Memory.wfFrom]

/-- Byte i of an image placed at a is read at a + i, and 0xFF beyond its end. -/
theorem read_imageCells (a i : Nat) (image : List Byte) :
    Memory.read .program (imageCells a image) (a + i) = image.getD i 0xFF := by
  induction image generalizing a i with
  | nil => rfl
  | cons v vs ih =>
    rw [imageCells]
    cases i with
    | zero =>
      split
      case isTrue hv => exact (Memory.read_of_lt (wfFrom_imageCells (a + 1) vs) (Nat.lt_succ_self a)).trans hv.symm
      case isFalse => simp [Memory.read]
    | succ i =>
      have hrest : Memory.read .program (imageCells (a + 1) vs) (a + (i + 1)) = vs.getD i 0xFF := by
        rw [← ih (a + 1) i, Nat.add_right_comm, Nat.add_assoc]
      split
      · simpa using hrest
      · rw [Memory.read, if_neg (by omega), if_neg (by omega)]
        simpa using hrest

theorem progByte_device0 (x : DeviceSpec) (a : Nat) : (device0 x).progByte a = x.image.getD a 0xFF := by
  have hread := read_imageCells 0 a x.image
  rwa [Nat.zero_add] at hread

/-! ### The checks (R549) -/

section
variable {t : Topology}

/-- In a valid topology a check that looks for an offending item finds none. -/
theorem eq_false_of_find_check (h : t.fault = none) {α : Type} {items : List α} {p : α → Bool} {f : α → ConfigFault}
    (hcheck : (items.find? p).map f ∈ t.checks) {x : α} (hx : x ∈ items) : p x = false := by
  have hfind : items.find? p = none := Option.map_eq_none_iff.mp (List.findSome?_eq_none_iff.mp h _ hcheck)
  exact Bool.eq_false_iff.mpr (List.find?_eq_none.mp hfind x hx)

theorem build_eq_ok_iff {s : State} : t.build = .ok s ↔ t.fault = none ∧ t.start = s := by
  rw [build]
  split <;> simp_all

theorem build_eq_error_of_fault (h : t.fault ≠ none) : ∃ f, t.build = .error f := by
  obtain ⟨f, hf⟩ := Option.ne_none_iff_exists'.mp h
  exact ⟨f, by rw [build, hf]⟩

/-- Every image of a valid topology fits into program memory. -/
theorem image_length_le (h : t.fault = none) {x : DeviceSpec} (hx : x ∈ t.devices) :
    x.image.length ≤ t.cfg.progBytes := by
  have hfits := eq_false_of_find_check h (p := fun d : DeviceSpec => t.cfg.progBytes < d.image.length)
    (f := fun d => .imageTooLong d.name) (by simp [checks]) hx
  exact Nat.le_of_not_lt (of_decide_eq_false hfits)

theorem mem_wireEnds (w : WireSpec) : w.a ∈ wireEnds w ∧ w.b ∈ wireEnds w := by
  rw [wireEnds]
  split <;> simp_all

/-- Every end of a wire of a valid topology exists. -/
theorem endpoint_isSome (h : t.fault = none) {w : WireSpec} (hw : w ∈ t.wires) {e : EndpointName}
    (he : e ∈ wireEnds w) : (t.endpoint e).isSome = true :=
  Option.isNone_eq_false_iff.mp <| eq_false_of_find_check h (p := fun e => (t.endpoint e).isNone)
    (f := .noSuchEndpoint) (by simp [checks]) (List.mem_flatMap.mpr ⟨w, hw, he⟩)

/-- Every wire of a valid topology has a known policy. -/
theorem policy_isSome (h : t.fault = none) {w : WireSpec} (hw : w ∈ t.wires) :
    (Policy.ofName w.policy).isSome = true :=
  Option.isNone_eq_false_iff.mp <| eq_false_of_find_check h (p := fun w : WireSpec => (Policy.ofName w.policy).isNone)
    (f := .unknownPolicy) (by simp [checks]) hw

/-! ### The run at cycle 0 (R604) -/

/-- A valid topology loses no wire. -/
theorem wire0_isSome (h : t.fault = none) {w : WireSpec} (hw : w ∈ t.wires) : (t.wire0 w).isSome = true := by
  obtain ⟨hmemA, hmemB⟩ := mem_wireEnds w
  obtain ⟨a, ha⟩ := Option.isSome_iff_exists.mp (endpoint_isSome h hw hmemA)
  obtain ⟨b, hb⟩ := Option.isSome_iff_exists.mp (endpoint_isSome h hw hmemB)
  obtain ⟨p, hp⟩ := Option.isSome_iff_exists.mp (policy_isSome h hw)
  rw [wire0, ha, hb, hp]
  rfl

theorem start_wires_length (h : t.fault = none) : t.start.wires.length = t.wires.length :=
  List.filterMap_length_eq_length.mpr fun _ hw => wire0_isSome h hw

/-- Each Device of the run is the one of its place in the topology, at reset. -/
theorem start_device (t : Topology) (j : Nat) : t.start.device j = t.devices[j]?.map device0 :=
  List.getElem?_map (f := device0) (l := t.devices)

end

end Sys2Proof.Machine.Topology

namespace Sys2Proof.Machine

/-- Settles O45: a build that answers a state answers `Topology.start`, and the check of the images rejects a long
one. -/
theorem buildStarts : Obligations.BuildStarts := by
  unfold Obligations.BuildStarts
  intro t
  refine ⟨fun s hbuild => ?_, fun ⟨x, hx, hlong⟩ => ?_⟩
  · obtain ⟨hvalid, rfl⟩ := Topology.build_eq_ok_iff.mp hbuild
    refine ⟨rfl, rfl, rfl, Topology.start_wires_length hvalid, fun j x hj => ?_⟩
    exact ⟨Topology.device0 x, by rw [Topology.start_device, hj]; rfl, rfl, Topology.progByte_device0 x⟩
  · exact Topology.build_eq_error_of_fault fun hvalid => absurd (Topology.image_length_le hvalid hx) (by omega)

end Sys2Proof.Machine
end
